-- ==== Sys2Proof/Word.lean ====
section
/-! DEFINITION. The words the register block moves: the widths of 00_scope.md R8. -/

namespace Sys2Proof

/-- A register's 32-bit value (`REGW = 32`, 00_scope.md R8). -/
abbrev Word := BitVec 32

/-- One payload byte (host software, 42_protocol_operations.md R165). -/
abbrev Byte := BitVec 8

/-- A byte offset from `BASE` inside the register window (12 bits, 10_state.md R40). -/
abbrev Offset := BitVec 12

/-- A transaction packed as one 45-bit word `W : OFF : DATA` (30_encoding.md R70). -/
abbrev Transaction := BitVec 45

/-- The strength field LOCATION_CONFIG.LEVEL (`LEVEL_BITS = 2`, 00_scope.md R8). -/
abbrev LevelCode := BitVec 2

/-- The buffer-size field LOCATION_CONFIG.SIZE (`SIZE_BITS = 11`, 00_scope.md R8). -/
abbrev SizeField := BitVec 11

/-- The 208 syndrome bits a decode consumes (10_state.md R44, 41_engine_steps.md R141). -/
abbrev Syndrome := BitVec 208

/-- An error location (`LOC_BITS = 13`, 00_scope.md R8). -/
abbrev Location := BitVec 13

/-- The error count LOCATION_STATUS.NB_ERRORS (`COUNT_BITS = 5`, 00_scope.md R8). -/
abbrev CountField := BitVec 5

end Sys2Proof
end

