-- ==== Sys2Proof/Config.lean ====
section
/-! DEFINITION. The parameters of 00_scope.md R10, and the free values (`draw`) of R11. -/

namespace Sys2Proof

/-- The three strengths (00_scope.md R9). -/
inductive Strength where
  | bch4
  | bch8
  | bch16
  deriving DecidableEq, Repr

/-- The agents of 10_state.md R21: the host callers, the reset agent and the decode agent of the engine. -/
inductive Agent where
  | caller (k : Nat)
  | engineReset
  | engineDecode
  deriving DecidableEq, Repr, Inhabited

/-- The result of a decode (41_engine_steps.md R145). -/
inductive Verdict where
  | uncorrectable
  | correctable (locs : List Location)
  deriving DecidableEq, Repr, Inhabited

/-- The values the parameters `CODE_BCH4` and `CODE_BCH16` can take: pairwise distinct and not 1
(92_eei_decisions.md D19). A constructor's name gives the two codes. -/
inductive CodeAssignment where
  /-- The spec's default, from general knowledge (93_implementation_defined.md G3). -/
  | bch4At0Bch16At2
  | bch4At0Bch16At3
  | bch4At2Bch16At0
  | bch4At2Bch16At3
  | bch4At3Bch16At0
  | bch4At3Bch16At2
  deriving DecidableEq, Repr, Inhabited

/-- `CODE_BCH4` under an assignment. -/
def CodeAssignment.bch4 : CodeAssignment → LevelCode
  | .bch4At0Bch16At2 | .bch4At0Bch16At3 => 0
  | .bch4At2Bch16At0 | .bch4At2Bch16At3 => 2
  | .bch4At3Bch16At0 | .bch4At3Bch16At2 => 3

/-- `CODE_BCH16` under an assignment. -/
def CodeAssignment.bch16 : CodeAssignment → LevelCode
  | .bch4At2Bch16At0 | .bch4At3Bch16At0 => 0
  | .bch4At0Bch16At2 | .bch4At3Bch16At2 => 2
  | .bch4At0Bch16At3 | .bch4At2Bch16At3 => 3

/-- The one remaining code, which is reserved (00_scope.md R9). -/
def CodeAssignment.reserved : CodeAssignment → LevelCode
  | .bch4At2Bch16At3 | .bch4At3Bch16At2 => 0
  | .bch4At0Bch16At3 | .bch4At3Bch16At0 => 2
  | .bch4At0Bch16At2 | .bch4At2Bch16At0 => 3

/-- Which codes this implementation uses: a parameter of 00_scope.md R10, nothing chosen (log 11). -/
opaque Config.codes : CodeAssignment

/-- `CODE_BCH4` (00_scope.md R9, R10; log 11). -/
def Config.codeBch4 : LevelCode := Config.codes.bch4

/-- The strength code of BCH8, given by the source (00_scope.md R9). -/
def Config.codeBch8 : LevelCode := 1

/-- `CODE_BCH16` (00_scope.md R9, R10; log 11). -/
def Config.codeBch16 : LevelCode := Config.codes.bch16

/-- `PAYLOAD_LEN(BCH4)`, a parameter: `none` where it is not supplied (00_scope.md R10,
92_eei_decisions.md D27; log 14). -/
opaque Config.payloadLenBch4 : Option Nat

/-- `PAYLOAD_LEN(BCH16)`, a parameter: `none` where it is not supplied (00_scope.md R10,
92_eei_decisions.md D27; log 14). -/
opaque Config.payloadLenBch16 : Option Nat

/-- `PAYLOAD_LEN` (00_scope.md R8, R10). -/
def Config.payloadLen : Strength → Option Nat
  | .bch4 => Config.payloadLenBch4
  | .bch8 => some 13
  | .bch16 => Config.payloadLenBch16

/-- The `n`-th free value of width `w`: the `draw(w)` of 00_scope.md R11. Nothing constrains it (log 3). -/
opaque Config.draw (w n : Nat) : BitVec w

/-- A free single bit, `draw(1)` (log 3). -/
def Config.drawBit (n : Nat) : Bool := (Config.draw 1 n).getLsbD 0

/-- Who moves at the `n`-th turn past the end of the written schedule: free, so that any interleaving of
10_state.md R21 is allowed (log 7). -/
opaque Config.freeTurn : Nat → Agent

/-- The unconstrained part of the location function (41_engine_steps.md R146). -/
opaque Config.locateRaw : LevelCode → SizeField → Syndrome → Verdict

/-- The syndrome that stands for zero errors, which property P3 of 41_engine_steps.md R147 says exists
and the source does not name. -/
opaque Config.cleanSyndrome : LevelCode → SizeField → Syndrome

end Sys2Proof
end

