-- ==== Sys2Proof/Syntax.lean ====
section
/-! DEFINITION. The instructions of this hardware: the bus transactions of 30_encoding.md R82, one constructor
per row of spec/opcode_table.json. -/

namespace Sys2Proof

/-- A bus transaction on a mapped register. Operands are the whole 32 data bits of a write and the slot index
of the error-location family; a read carries no operand (30_encoding.md R71: its data bits are ignored). -/
inductive Instr where
  | rdSysconfig
  | wrSysconfigSrst (data : Word)
  | wrSysconfig (data : Word)
  | rdSysstatus
  | wrSysstatus (data : Word)
  | rdIrqstatus
  | wrIrqstatus (data : Word)
  | rdLocationConfig
  | wrLocationConfig (data : Word)
  | rdPageCtrl
  | wrPageCtrl (data : Word)
  | rdSf0
  | rdSf1
  | rdSf2
  | rdSf3
  | rdSf4
  | rdSf5
  | rdSf6
  | wrSf0 (data : Word)
  | wrSf1 (data : Word)
  | wrSf2 (data : Word)
  | wrSf3 (data : Word)
  | wrSf4 (data : Word)
  | wrSf5 (data : Word)
  | wrSf6 (data : Word)
  | wrSf6Trig (data : Word)
  | rdLocationStatus
  | wrLocationStatus (data : Word)
  | rdErrloc (i : BitVec 4)
  | wrErrloc (i : BitVec 4) (data : Word)
  deriving DecidableEq, Repr

end Sys2Proof
end

