-- ==== Sys2Proof/WellFormed.lean ====
section
/-! DEFINITION. Which terms of `Instr` are transactions: the sub-forms of 30_encoding.md R74 are told apart by a
data bit, so the four constructors concerned constrain it. -/

namespace Sys2Proof

/-- The data condition of the instruction's row (30_encoding.md R82). -/
def Instr.wellFormed : Instr → Bool
  | .wrSysconfigSrst data => data.getLsbD 1
  | .wrSysconfig data => !data.getLsbD 1
  | .wrSf6 data => !data.getLsbD 16
  | .wrSf6Trig data => data.getLsbD 16
  | .rdSysconfig | .rdSysstatus | .wrSysstatus _ | .rdIrqstatus | .wrIrqstatus _
  | .rdLocationConfig | .wrLocationConfig _ | .rdPageCtrl | .wrPageCtrl _
  | .rdSf0 | .rdSf1 | .rdSf2 | .rdSf3 | .rdSf4 | .rdSf5 | .rdSf6
  | .wrSf0 _ | .wrSf1 _ | .wrSf2 _ | .wrSf3 _ | .wrSf4 _ | .wrSf5 _
  | .rdLocationStatus | .wrLocationStatus _ | .rdErrloc _ | .wrErrloc _ _ => true

end Sys2Proof
end

