-- ==== Sys2Proof/Decode.lean ====
section
/-! DEFINITION. From the 45-bit transaction word to the instruction, and back (30_encoding.md R70 to R74, R82,
R83), with the access width of 20_memory.md R55 checked at the boundary. -/

namespace Sys2Proof

/-- Why a request is no transaction on a mapped register (30_encoding.md R83 a, b). -/
inductive DecodeError where
  | width
  | misaligned
  | unmapped
  deriving DecidableEq, Repr

/-- The width of a host access. Only `word` is admitted (20_memory.md R55). -/
inductive AccessWidth where
  | byte
  | half
  | word
  deriving DecidableEq, Repr

/-- What a host puts to the register block: an access width beside the record of 30_encoding.md R70. -/
structure BusRequest where
  width : AccessWidth
  bits : Transaction
  deriving DecidableEq, Repr

/-- The field `W` (30_encoding.md R70). -/
def Transaction.isWrite (t : Transaction) : Bool := BitVec.getLsbD t 44

/-- The field `OFF` (30_encoding.md R70). -/
def Transaction.offset (t : Transaction) : Offset := BitVec.extractLsb' 32 12 t

/-- The field `DATA` (30_encoding.md R70). -/
def Transaction.data (t : Transaction) : Word := BitVec.extractLsb' 0 32 t

/-- The slot index `i = OFF[5:2]` of the error-location family (30_encoding.md R73). -/
def Offset.slot (off : Offset) : BitVec 4 := BitVec.extractLsb' 2 4 off

/-- `0x880 <= OFF <= 0x8BC`: the bits of OFF above the slot index (30_encoding.md R82, mask 1FC300000000). -/
def Offset.isErrloc (off : Offset) : Bool := BitVec.extractLsb' 6 6 off == 0b100010#6

/-- The two sub-forms of a SYSCONFIG write (30_encoding.md R74). -/
def sysconfigWrite (data : Word) : Instr :=
  if data.getLsbD 1 then .wrSysconfigSrst data else .wrSysconfig data

/-- The two sub-forms of a fragment-6 write (30_encoding.md R74). -/
def fragment6Write (data : Word) : Instr :=
  if data.getLsbD 16 then .wrSf6Trig data else .wrSf6 data

/-- The read rows of 30_encoding.md R82. -/
def decodeRead (off : Offset) : Except DecodeError Instr :=
  if off = 0x010#12 then .ok .rdSysconfig
  else if off = 0x014#12 then .ok .rdSysstatus
  else if off = 0x018#12 then .ok .rdIrqstatus
  else if off = 0x020#12 then .ok .rdLocationConfig
  else if off = 0x080#12 then .ok .rdPageCtrl
  else if off = 0x400#12 then .ok .rdSf0
  else if off = 0x404#12 then .ok .rdSf1
  else if off = 0x408#12 then .ok .rdSf2
  else if off = 0x40C#12 then .ok .rdSf3
  else if off = 0x410#12 then .ok .rdSf4
  else if off = 0x414#12 then .ok .rdSf5
  else if off = 0x418#12 then .ok .rdSf6
  else if off = 0x800#12 then .ok .rdLocationStatus
  else if off.isErrloc then .ok (.rdErrloc off.slot)
  else .error .unmapped

/-- The write rows of 30_encoding.md R82. -/
def decodeWrite (off : Offset) (data : Word) : Except DecodeError Instr :=
  if off = 0x010#12 then .ok (sysconfigWrite data)
  else if off = 0x014#12 then .ok (.wrSysstatus data)
  else if off = 0x018#12 then .ok (.wrIrqstatus data)
  else if off = 0x020#12 then .ok (.wrLocationConfig data)
  else if off = 0x080#12 then .ok (.wrPageCtrl data)
  else if off = 0x400#12 then .ok (.wrSf0 data)
  else if off = 0x404#12 then .ok (.wrSf1 data)
  else if off = 0x408#12 then .ok (.wrSf2 data)
  else if off = 0x40C#12 then .ok (.wrSf3 data)
  else if off = 0x410#12 then .ok (.wrSf4 data)
  else if off = 0x414#12 then .ok (.wrSf5 data)
  else if off = 0x418#12 then .ok (fragment6Write data)
  else if off = 0x800#12 then .ok (.wrLocationStatus data)
  else if off.isErrloc then .ok (.wrErrloc off.slot data)
  else .error .unmapped

/-- An offset that is no multiple of 4 (20_memory.md R54). -/
def Offset.misaligned (off : Offset) : Bool := BitVec.extractLsb' 0 2 off != 0#2

/-- The decoder: total, alignment before mapping (60_exceptions.md R209), and the data bits of a read ignored
(30_encoding.md R71). -/
def decode (t : Transaction) : Except DecodeError Instr :=
  if t.offset.misaligned then .error .misaligned
  else if t.isWrite then decodeWrite t.offset t.data
  else decodeRead t.offset

/-- The boundary of the model: the access width is checked first (20_memory.md R55, 60_exceptions.md R209). -/
def decodeRequest (r : BusRequest) : Except DecodeError Instr :=
  match r.width with
  | .word => decode r.bits
  | .byte => .error .width
  | .half => .error .width

/-- `T = W : OFF : DATA` (30_encoding.md R70). -/
def packTransaction (w : BitVec 1) (off : Offset) (data : Word) : Transaction := w ++ off ++ data

/-- The offset of slot `i`: `0x880 + 4*i` (30_encoding.md R73), `i` standing in OFF[5:2]. -/
def slotOffset (i : BitVec 4) : Offset := 0b100010#6 ++ i ++ 0#2

/-- The encoder, from the same table (30_encoding.md R82); the data of a read is 0 by convention (R70). -/
def encode : Instr → Transaction
  | .rdSysconfig => packTransaction 0 0x010 0
  | .wrSysconfigSrst data => packTransaction 1 0x010 data
  | .wrSysconfig data => packTransaction 1 0x010 data
  | .rdSysstatus => packTransaction 0 0x014 0
  | .wrSysstatus data => packTransaction 1 0x014 data
  | .rdIrqstatus => packTransaction 0 0x018 0
  | .wrIrqstatus data => packTransaction 1 0x018 data
  | .rdLocationConfig => packTransaction 0 0x020 0
  | .wrLocationConfig data => packTransaction 1 0x020 data
  | .rdPageCtrl => packTransaction 0 0x080 0
  | .wrPageCtrl data => packTransaction 1 0x080 data
  | .rdSf0 => packTransaction 0 0x400 0
  | .rdSf1 => packTransaction 0 0x404 0
  | .rdSf2 => packTransaction 0 0x408 0
  | .rdSf3 => packTransaction 0 0x40C 0
  | .rdSf4 => packTransaction 0 0x410 0
  | .rdSf5 => packTransaction 0 0x414 0
  | .rdSf6 => packTransaction 0 0x418 0
  | .wrSf0 data => packTransaction 1 0x400 data
  | .wrSf1 data => packTransaction 1 0x404 data
  | .wrSf2 data => packTransaction 1 0x408 data
  | .wrSf3 data => packTransaction 1 0x40C data
  | .wrSf4 data => packTransaction 1 0x410 data
  | .wrSf5 data => packTransaction 1 0x414 data
  | .wrSf6 data => packTransaction 1 0x418 data
  | .wrSf6Trig data => packTransaction 1 0x418 data
  | .rdLocationStatus => packTransaction 0 0x800 0
  | .wrLocationStatus data => packTransaction 1 0x800 data
  | .rdErrloc i => packTransaction 0 (slotOffset i) 0
  | .wrErrloc i data => packTransaction 1 (slotOffset i) data

/-- The mask of the instruction's row of spec/opcode_table.json (30_encoding.md R82). -/
def rowMask : Instr → Transaction
  | .wrSysconfigSrst _ | .wrSysconfig _ => 0x1FFF00000002#45
  | .wrSf6 _ | .wrSf6Trig _ => 0x1FFF00010000#45
  | .rdErrloc _ | .wrErrloc _ _ => 0x1FC300000000#45
  | .rdSysconfig | .rdSysstatus | .wrSysstatus _ | .rdIrqstatus | .wrIrqstatus _
  | .rdLocationConfig | .wrLocationConfig _ | .rdPageCtrl | .wrPageCtrl _
  | .rdSf0 | .rdSf1 | .rdSf2 | .rdSf3 | .rdSf4 | .rdSf5 | .rdSf6
  | .wrSf0 _ | .wrSf1 _ | .wrSf2 _ | .wrSf3 _ | .wrSf4 _ | .wrSf5 _
  | .rdLocationStatus | .wrLocationStatus _ => 0x1FFF00000000#45

/-- The match value of the instruction's row of spec/opcode_table.json (30_encoding.md R82). -/
def rowMatch : Instr → Transaction
  | .rdSysconfig => 0x001000000000#45
  | .wrSysconfigSrst _ => 0x101000000002#45
  | .wrSysconfig _ => 0x101000000000#45
  | .rdSysstatus => 0x001400000000#45
  | .wrSysstatus _ => 0x101400000000#45
  | .rdIrqstatus => 0x001800000000#45
  | .wrIrqstatus _ => 0x101800000000#45
  | .rdLocationConfig => 0x002000000000#45
  | .wrLocationConfig _ => 0x102000000000#45
  | .rdPageCtrl => 0x008000000000#45
  | .wrPageCtrl _ => 0x108000000000#45
  | .rdSf0 => 0x040000000000#45
  | .rdSf1 => 0x040400000000#45
  | .rdSf2 => 0x040800000000#45
  | .rdSf3 => 0x040C00000000#45
  | .rdSf4 => 0x041000000000#45
  | .rdSf5 => 0x041400000000#45
  | .rdSf6 => 0x041800000000#45
  | .wrSf0 _ => 0x140000000000#45
  | .wrSf1 _ => 0x140400000000#45
  | .wrSf2 _ => 0x140800000000#45
  | .wrSf3 _ => 0x140C00000000#45
  | .wrSf4 _ => 0x141000000000#45
  | .wrSf5 _ => 0x141400000000#45
  | .wrSf6 _ => 0x141800000000#45
  | .wrSf6Trig _ => 0x141800010000#45
  | .rdLocationStatus => 0x080000000000#45
  | .wrLocationStatus _ => 0x180000000000#45
  | .rdErrloc _ => 0x088000000000#45
  | .wrErrloc _ _ => 0x188000000000#45

/-- The instruction whose 45 bits are `w`, bit 0 the least significant (30_encoding.md R70: one record, one
word, so nothing is laid out in bytes). A number of more than 45 bits is no transaction. -/
def decodeTableWord (nbits w : Nat) : Option Instr :=
  if w % 2 ^ nbits < 2 ^ 45 then
    match decode (BitVec.ofNat 45 (w % 2 ^ nbits)) with
    | .ok i => some i
    | .error _ => none
  else none

end Sys2Proof
end

