-- ==== Sys2Proof/Machine/State.lean ====
section
/-! DEFINITION. The state of 10_state.md R20, as plain data: the engine's registers reduced to their named
fields, its hidden state, the model's marks, the host software's state, and four fields of the model's own
(the schedule, the counters of free turns and free values, the read data). -/

namespace Sys2Proof.Machine

open Sys2Proof

/-- Why the machine stops with a fault: the `Fault(...)` rows of 60_exceptions.md R201. -/
inductive Fault where
  /-- Raised by a reset, configuration, operand or trigger write while a job is present
  (60_exceptions.md R211). Safe: the spec leaves the engine's state undefined and the model stops. -/
  | overlappingUse
  /-- Raised by a trigger while LEVEL holds the reserved code (60_exceptions.md R212). Safe: stops. -/
  | reservedLevel
  /-- Raised by `classify` on a count over sixteen (60_exceptions.md R213). Safe: stops. -/
  | countOutOfRange
  deriving DecidableEq, Repr

/-- Why the model gives no meaning: the `Refused(...)` rows of 60_exceptions.md R201. -/
inductive Refusal where
  /-- Raised by no arm: every instruction has its meaning. Safe: it would stop. -/
  | notModelled (mnemonic : String)
  /-- Raised at the boundary by an 8-bit or 16-bit access (20_memory.md R55). Safe: stops. -/
  | width
  /-- Raised at the boundary by an offset that is no multiple of 4 (20_memory.md R54). Safe: stops. -/
  | misaligned
  /-- Raised at the boundary by an offset that is not in the map (40_bus_register_access.md R128). Safe: stops. -/
  | unmapped
  /-- Raised by a write to SYSSTATUS, LOCATION_STATUS or ERROR_LOCATION_i
  (40_bus_register_access.md R104, R123, R125). Safe: stops. -/
  | readOnly
  /-- Raised by a transaction not admitted before the first soft reset (40_bus_register_access.md R127). Safe: stops. -/
  | beforeReset
  /-- Raised by a transaction not admitted while a reset is pending (40_bus_register_access.md R127). Safe: stops. -/
  | duringReset
  /-- Raised by a trigger while PAGE_CTRL is non-zero (40_bus_register_access.md R119). Safe: stops. -/
  | pageMode
  /-- Raised by `load_syndrome` and `decode` on an instance whose strength has no supplied payload length
  (42_protocol_operations.md R163). Safe: stops. -/
  | payloadLengthOpen
  /-- Raised by `load_syndrome` and `decode` on an instance whose supplied payload length is more than the sixteen
  bytes of the four words that `load_syndrome` writes (70_reset_and_hazards.md R249; log 14). Safe: stops. -/
  | payloadTooLong
  /-- Raised by `load_syndrome` and `decode` called with a payload that is not of the length of the instance's
  strength: no call of the spec's signature (42_protocol_operations.md R165; log 14). Safe: stops. -/
  | payloadLengthMismatch
  /-- Raised by an operation called on an instance that the platform has not created: a caller precondition the spec
  gives no meaning (10_state.md R46, 60_exceptions.md R205; log 16). Safe: stops. -/
  | noSuchInstance
  deriving DecidableEq, Repr

/-- The in-flight decode and its operands, sampled at the trigger (10_state.md R44). -/
structure Job where
  level : LevelCode
  size : SizeField
  syn : Syndrome
  deriving DecidableEq, Repr

/-- The eight protocol phases (10_state.md R22). -/
inductive Phase where
  | idle
  | resetting
  | configured
  | syndromeLoaded
  | processing
  | done
  | correctable
  | uncorrectable
  deriving DecidableEq, Repr

/-- An engine instance: its handle to the register block and its currently configured strength (10_state.md R46). `base`
is the parameter `BASE` of 00_scope.md R10, `level` is first `DEFAULT_LEVEL`; every instance is the one engine
(log 15). -/
structure Instance where
  base : Nat
  level : Strength
  deriving DecidableEq, Repr

/-- The bytes of a payload, as many as `PAYLOAD_LEN` of the strength says (42_protocol_operations.md R163; log 14). -/
abbrev Payload := List Byte

/-- The operations a caller may call (42_protocol_operations.md section 2, 43_registry_operations.md). A bound
`none` is the reference's unbounded wait, `some n` the bounded variant of R171 with `POLL_BOUND = n`. A handle names
an instance: its place in `State.instances`. `reset`, `start`, `await_completion` and `classify` use nothing of their
instance but its register block, so they name none (log 15). -/
inductive Operation where
  | reset (bound : Option Nat)
  | configure (handle : Nat) (level : Strength)
  | loadSyndrome (handle : Nat) (src : Payload)
  | start
  | awaitCompletion (bound : Option Nat)
  | classify
  | decode (handle : Nat) (src : Payload) (bound : Option Nat)
  | register (handle : Nat) (bound : Option Nat)
  | request (level : Strength)
  deriving DecidableEq, Repr

/-- What a caller asks for next: a bare transaction, an operation, or that the platform creates an instance
("created when the platform probes the peripheral", 10_state.md R46; log 15). -/
inductive Command where
  | transaction (r : BusRequest)
  | operation (op : Operation)
  | probe (inst : Instance)
  deriving DecidableEq, Repr

/-- One line of a running operation: a bus transaction with what follows it, or a piece of software
(42_protocol_operations.md R162 to R171, 43_registry_operations.md R191, R192). One line is one turn (log 8). -/
inductive Line where
  | readSysconfig
  | writeSoftReset
  | pollResetDone (bound : Option Nat)
  | writeSmartIdle
  | storeLevel (handle : Nat) (level : Strength)
  | writeConfig (level : Strength)
  | writeContinuous
  | checkPayload (handle : Nat) (src : Payload)
  | fillBuffer (src : Payload)
  | writeFragment (k : Fin 4)
  | readFragment6
  | writeTrigger
  | pollDone (bound : Option Nat)
  | acknowledge
  | readStatus
  | readSlot (i : BitVec 4)
  | returnCorrectable
  | returnUncorrectable
  | returnToConfigured
  | appendInstance (handle : Nat)
  | configureStored (handle : Nat)
  | lookup (level : Strength)
  | returnHandle (handle : Nat)
  | returnCompleted
  deriving DecidableEq, Repr

/-- What a caller gets back (42_protocol_operations.md R173, 60_exceptions.md R201). -/
inductive Return where
  /-- The result of a bare read. -/
  | value (w : Word)
  /-- A bare write was done. -/
  | written
  /-- An operation without a result has returned. -/
  | completed
  /-- `Correctable(n, locs)`. -/
  | correctable (count : Nat) (locs : List Location)
  /-- The handle that `request` returns, or that the platform gives a new instance. -/
  | handle (h : Nat)
  /-- `Err(Uncorrectable)`. -/
  | errUncorrectable
  /-- `Err(DeviceNotFound)`. -/
  | errDeviceNotFound
  /-- `Err(Timeout)`. -/
  | errTimeout
  deriving DecidableEq, Repr

/-- The capacity of the SyndromeBuffer (`SYNBUF_BYTES = 28`, 00_scope.md R8). -/
abbrev SyndromeBuffer := Vector Byte 28

/-- One logical user of the host-side API (10_state.md R20 d, R46; log 8). -/
structure Caller where
  /-- The protocol phase as this caller sees it, ghost state (10_state.md R22; log 10). -/
  phase : Phase
  /-- The SyndromeBuffer (10_state.md R46). -/
  synBuffer : SyndromeBuffer
  /-- The ErrorLocationSet being collected (10_state.md R46). -/
  locs : List Location
  /-- The variable `v` or `s` of the operation's pseudocode. -/
  latch : Word
  /-- The lines of the running operation still to run. -/
  code : List Line
  /-- What the caller asks for after that, in order. -/
  commands : List Command
  /-- What the caller got back, newest first. -/
  returned : List Return
  deriving DecidableEq, Repr

/-- The complete state (10_state.md R20). -/
structure State where
  /-- SYSCONFIG.IDLEMODE (10_state.md R30). -/
  idleMode : BitVec 2
  /-- SYSSTATUS.RESETDONE (10_state.md R31). -/
  resetDone : Bool
  /-- IRQSTATUS.DONE0 (10_state.md R32). -/
  done0 : Bool
  /-- LOCATION_CONFIG.LEVEL (10_state.md R33). -/
  level : LevelCode
  /-- LOCATION_CONFIG.SIZE (10_state.md R33). -/
  size : SizeField
  /-- PAGE_CTRL.MODE (10_state.md R34). -/
  pageMode : Word
  /-- SYNDROME_FRAGMENT_0 to 5 (10_state.md R25). -/
  frag : Vector Word 6
  /-- SYNDROME_FRAGMENT_6.DATA (10_state.md R26). -/
  frag6Data : BitVec 16
  /-- SYNDROME_FRAGMENT_6.VALID (10_state.md R26). -/
  frag6Valid : Bool
  /-- LOCATION_STATUS.CORRECTABLE (10_state.md R35). -/
  correctable : Bool
  /-- LOCATION_STATUS.NB_ERRORS (10_state.md R35). -/
  nbErrors : CountField
  /-- ERROR_LOCATION_0 to 15, field POS (10_state.md R27). -/
  errLoc : Vector Location 16
  /-- True until the first soft reset is started (10_state.md R42). -/
  poweredUnreset : Bool
  /-- True from the soft-reset write to reset completion (10_state.md R43). -/
  resetPending : Bool
  /-- The in-flight decode (10_state.md R44). -/
  job : Option Job
  /-- The sticky `fault` mark with its reason (10_state.md R45; log 5). -/
  fault : Option Fault
  /-- The sticky `refused` mark with its reason (10_state.md R45; log 5). -/
  refused : Option Refusal
  /-- The engine instances the platform has created, in that order (10_state.md R46; log 15). -/
  instances : List Instance
  /-- The registry, in insertion order: the handles of its members (10_state.md R46, 43_registry_operations.md R190). -/
  registry : List Nat
  /-- The host callers (10_state.md R21). -/
  callers : List Caller
  /-- The model's own: the schedule, the next agent first (log 7). -/
  turns : List Agent
  /-- The model's own: how many turns past the end of the written schedule have been taken (log 7). -/
  freeTurns : Nat
  /-- The model's own: how many free values have been used (log 3). -/
  draws : Nat
  /-- The model's own: the value the last read transaction returned (30_encoding.md R70; log 4). -/
  readData : Word
  deriving DecidableEq, Repr

/-- A caller that has asked for nothing, in phase `p`. -/
def Caller.fresh (p : Phase) : Caller where
  phase := p
  synBuffer := Vector.replicate 28 0
  locs := []
  latch := 0
  code := []
  commands := []
  returned := []

/-- The machine right after a reset completion: the record `RST` of 10_state.md R47 (log 1). The fields R47
leaves unspecified (IDLEMODE, LEVEL, SIZE, MODE, LOCATION_STATUS, the slots) hold 0 here, DESIGN CHOICE, unsafe
(log 2); the reset completion STEP draws them (`Machine.completeReset`). One caller, with nothing to do; its
phase is CONFIGURED (42_protocol_operations.md R161: "the state just after a reset is already called
CONFIGURED"; log 10). -/
def State.reset : State where
  idleMode := 0
  resetDone := true
  done0 := false
  level := 0
  size := 0
  pageMode := 0
  frag := #v[0, 0, 0, 0, 0, 0]
  frag6Data := 0
  frag6Valid := false
  correctable := false
  nbErrors := 0
  errLoc := #v[0, 0, 0, 0, 0, 0, 0, 0, 0, 0, 0, 0, 0, 0, 0, 0]
  poweredUnreset := false
  resetPending := false
  job := none
  fault := none
  refused := none
  instances := []
  registry := []
  callers := [Caller.fresh .configured]
  turns := []
  freeTurns := 0
  draws := 0
  readData := 0

/-- The machine at power-on (10_state.md R47, last paragraph): every register field is unspecified there; they
hold 0 here, which no admitted transaction can read (40_bus_register_access.md R127; DESIGN CHOICE, unsafe, log 17). -/
def State.powerOn : State :=
  { State.reset with resetDone := false, poweredUnreset := true, callers := [Caller.fresh .idle] }

end Sys2Proof.Machine
end

