-- ==== Sys2Proof/Machine/Operands.lean ====
section
/-! DEFINITION. Fields of a word, the values software assembles and extracts (30_encoding.md R75 to R81), the
syndrome bits (41_engine_steps.md R141), strengths and the location function (00_scope.md R9,
41_engine_steps.md R146, R147). -/

namespace Sys2Proof.Machine

open Sys2Proof

/-- The word with ones in the `n` bits from bit `lo` up, zeros elsewhere. -/
def fieldMask (lo n : Nat) : Word := (BitVec.allOnes n).setWidth 32 <<< lo

/-- `w[lo+n-1:lo] <- v` (notation of 00_scope.md R11). -/
def setField (w : Word) (lo : Nat) {n : Nat} (v : BitVec n) : Word :=
  (w &&& ~~~(fieldMask lo n)) ||| (v.setWidth 32 <<< lo)

/-- `w[lo+n-1:lo]` (notation of 00_scope.md R11). -/
def getField (w : Word) (lo n : Nat) : BitVec n := w.extractLsb' lo n

/-- `DATA[4:3]` of a SYSCONFIG write (30_encoding.md R72). -/
def idleModeOf (data : Word) : BitVec 2 := getField data 3 2

/-- `DATA[1:0]` of a LOCATION_CONFIG write (30_encoding.md R72). -/
def levelOf (data : Word) : LevelCode := getField data 0 2

/-- `DATA[26:16]` of a LOCATION_CONFIG write (30_encoding.md R72). -/
def bufferSizeOf (data : Word) : SizeField := getField data 16 11

/-- `DATA[15:0]` of a SYNDROME_FRAGMENT_6 write (30_encoding.md R72). -/
def frag6DataOf (data : Word) : BitVec 16 := getField data 0 16

/-- `n = s[4:0]` of a LOCATION_STATUS read (30_encoding.md R79). -/
def countOf (s : Word) : CountField := getField s 0 5

/-- `correctable = s[8]` of a LOCATION_STATUS read (30_encoding.md R79). -/
def correctableOf (s : Word) : Bool := s.getLsbD 8

/-- `location = r[12:0]` of an ERROR_LOCATION_i read (30_encoding.md R79). -/
def locationOf (r : Word) : Location := getField r 0 13

/-- Bit 0 of SYSSTATUS (`resetdone`) or of IRQSTATUS (`done`) (30_encoding.md R79). -/
def statusBitOf (s : Word) : Bool := s.getLsbD 0

/-- The soft-reset value `v | 0x2` (30_encoding.md R76). -/
def softResetValue (v : Word) : Word := v ||| 0x00000002#32

/-- The smart-idle value `(v & ~0x18) | 0x10` (30_encoding.md R76). -/
def smartIdleValue (v : Word) : Word := (v &&& ~~~0x00000018#32) ||| 0x00000010#32

/-- The trigger value `v | 0x10000` (30_encoding.md R77). -/
def triggerValue (v : Word) : Word := v ||| 0x00010000#32

/-- The acknowledge value (30_encoding.md R78). -/
def acknowledgeValue : Word := 0x00000001#32

/-- `BUF_SIZE` (00_scope.md R8). -/
def bufSize : SizeField := 2047

/-- `code(level)` (00_scope.md R9). -/
def codeOf : Strength → LevelCode
  | .bch4 => Config.codeBch4
  | .bch8 => Config.codeBch8
  | .bch16 => Config.codeBch16

/-- The value `configure(level)` writes into LOCATION_CONFIG: `zext_32(code(level)) | (2047 << 16)`
(30_encoding.md R75). -/
def configValue (level : Strength) : Word :=
  (codeOf level).setWidth 32 ||| (bufSize.setWidth 32 <<< 16)

/-- The strength a level code stands for; `none` at the reserved code (00_scope.md R9). -/
def strengthOf (l : LevelCode) : Option Strength :=
  if l = Config.codeBch8 then some .bch8
  else if l = Config.codeBch4 then some .bch4
  else if l = Config.codeBch16 then some .bch16
  else none

/-- `t`, the number of bit errors a strength corrects (00_scope.md R9). -/
def correctableErrors : Strength → Nat
  | .bch4 => 4
  | .bch8 => 8
  | .bch16 => 16

/-- The bound P1 of 41_engine_steps.md R147 on the number of locations. At the reserved code, where the
function is not defined (R146), the sixteen slots bound it (DESIGN CHOICE, log 13; no fault-free run asks). -/
def maxLocations (l : LevelCode) : Nat :=
  match strengthOf l with
  | some strength => correctableErrors strength
  | none => 16

/-- `Locate` (41_engine_steps.md R146): an unconstrained function but for properties P1 and P3 of R147. Every
function with those two properties is this one for some `locateRaw` and `cleanSyndrome` (log 12). -/
def locate (l : LevelCode) (size : SizeField) (syn : Syndrome) : Verdict :=
  if (strengthOf l).isSome ∧ syn = Config.cleanSyndrome l size then .correctable []
  else
    match Config.locateRaw l size syn with
    | .uncorrectable => .uncorrectable
    | .correctable locs =>
      if locs.length ≤ maxLocations l then .correctable locs else .uncorrectable

/-- `syn = frag[6].DATA : frag[5] : ... : frag[0]` (10_state.md R44, 41_engine_steps.md R141). -/
def syndromeOf (data6 : BitVec 16) (frag : Vector Word 6) : Syndrome :=
  data6 ++ frag[5] ++ frag[4] ++ frag[3] ++ frag[2] ++ frag[1] ++ frag[0]

/-- `rotate`: `dst[12-i] = src[i]` on thirteen bytes (30_encoding.md R80), and the same reversal at another supplied
length (log 14). -/
def rotate (src : Payload) : Payload := src.reverse

/-- The zero-filled 28-byte buffer with the rotated payload at its start (30_encoding.md R81). -/
def padded (dst : Payload) : SyndromeBuffer := Vector.ofFn fun i => dst.getD i.val 0

/-- `LE32(b0,b1,b2,b3) = b0 | b1<<8 | b2<<16 | b3<<24` (00_scope.md R11). -/
def le32 (b0 b1 b2 b3 : Byte) : Word :=
  b0.setWidth 32 ||| (b1.setWidth 32 <<< 8) ||| (b2.setWidth 32 <<< 16) ||| (b3.setWidth 32 <<< 24)

/-- `W_k = LE32(p[4k], p[4k+1], p[4k+2], p[4k+3])` for k = 0..3 (20_memory.md R51, 30_encoding.md R81). -/
def bufferWord (p : SyndromeBuffer) (k : Fin 4) : Word :=
  le32 (p[4 * k.val]) (p[4 * k.val + 1]) (p[4 * k.val + 2]) (p[4 * k.val + 3])

/-- The sixteen slots after a completion: the locations in order, then free values
(41_engine_steps.md R142). -/
def slotsOf (locs : List Location) (n : Nat) : Vector Location 16 :=
  Vector.ofFn fun i => locs.getD i.val (Config.draw 13 (n + i.val))

end Sys2Proof.Machine
end

