-- ==== Sys2Proof/Machine/Flags.lean ====
section
/-! DEFINITION. The four status flags of 10_state.md R38: RESETDONE, DONE0, CORRECTABLE and VALID. What each
operation makes of them; the engine has no arithmetic condition codes. -/

namespace Sys2Proof.Machine

open Sys2Proof

/-- `DONE0` after a write of `data` to IRQSTATUS: `DONE0 & ~DATA[0]`
(40_bus_register_access.md R106, 41_engine_steps.md R149 c). -/
def doneAfterWrite (done0 : Bool) (data : Word) : Bool := done0 && !data.getLsbD 0

/-- `RESETDONE` at the write that starts a soft reset (40_bus_register_access.md R101). -/
def resetDoneAtStart : Bool := false

/-- `RESETDONE` at reset completion (41_engine_steps.md R140). -/
def resetDoneAtCompletion : Bool := true

/-- `DONE0` at reset completion (41_engine_steps.md R140). -/
def doneAtReset : Bool := false

/-- `DONE0` at decode completion, whatever it was before (41_engine_steps.md R142). -/
def doneAtCompletion : Bool := true

/-- `CORRECTABLE` at decode completion (41_engine_steps.md R142). -/
def correctableAfter : Verdict → Bool
  | .correctable _ => true
  | .uncorrectable => false

/-- `NB_ERRORS` at decode completion: the count, or a free value (41_engine_steps.md R142). -/
def countAfter (v : Verdict) (n : Nat) : CountField :=
  match v with
  | .correctable locs => BitVec.ofNat 5 locs.length
  | .uncorrectable => Config.draw 5 n

/-- The locations a verdict reports: none when uncorrectable (41_engine_steps.md R142). -/
def locationsOf : Verdict → List Location
  | .correctable locs => locs
  | .uncorrectable => []

end Sys2Proof.Machine
end

