-- ==== Sys2Proof/Machine/Ops.lean ====
section
/-! DEFINITION. The named operations over the registers: admission (40_bus_register_access.md R126, R127,
60_exceptions.md R209), the read port, the register stores, the two engine steps, and the marks. -/

namespace Sys2Proof.Machine

open Sys2Proof

/-- The outcome of one step (Host/Core.lean). -/
abbrev Result := Host.Outcome State Fault Refusal

/-! ## Admission, in the order of 60_exceptions.md R209 -/

/-- Check 3 of 60_exceptions.md R209 for every transaction but the three that 40_bus_register_access.md R127
names. Both flags at once is met by no run: the table's first row is then taken (DESIGN CHOICE, log 24). -/
def afterReset (s : State) (r : Result) : Result :=
  if s.poweredUnreset then .refused .beforeReset
  else if s.resetPending then .refused .duringReset
  else r

/-- Check 3 for RD.SYSCONFIG and WR.SYSCONFIG.SRST, which are admitted before the first reset
(40_bus_register_access.md R127). -/
def unlessResetting (s : State) (r : Result) : Result :=
  if s.resetPending then .refused .duringReset else r

/-- Check 5: overlapping use (40_bus_register_access.md R126, 60_exceptions.md R211). -/
def whenNoJob (s : State) (r : Result) : Result :=
  if s.job.isSome then .fault .overlappingUse else r

/-- Check 6, of the trigger alone: reserved level (60_exceptions.md R212), then page mode
(40_bus_register_access.md R119). -/
def whenTriggerable (s : State) (r : Result) : Result :=
  if (strengthOf s.level).isNone then .fault .reservedLevel
  else if s.pageMode ≠ 0 then .refused .pageMode
  else r

/-! ## The read port -/

/-- A read that returns a register whole (40_bus_register_access.md R109, R111). -/
def State.answer (s : State) (w : Word) : State := { s with readData := w }

/-- A read result is `draw(32)` with the named fields overwritten (40_bus_register_access.md, second
convention; 10_state.md R36). `named` overwrites them. -/
def State.answerNamed (s : State) (named : Word → Word) : State :=
  { s with readData := named (Config.draw 32 s.draws), draws := s.draws + 1 }

/-! ## Register stores -/

/-- A soft reset is started (40_bus_register_access.md R101). -/
def State.startReset (s : State) : State :=
  { s with resetPending := true, poweredUnreset := false, resetDone := resetDoneAtStart }

/-- `SYSCONFIG.IDLEMODE <- v` (40_bus_register_access.md R102). -/
def State.storeIdleMode (s : State) (v : BitVec 2) : State := { s with idleMode := v }

/-- The acknowledge, the analogue of a return from an exception: a write of `data` to IRQSTATUS
(40_bus_register_access.md R106, 60_exceptions.md R215). -/
def State.acknowledge (s : State) (data : Word) : State :=
  { s with done0 := doneAfterWrite s.done0 data }

/-- `LOCATION_CONFIG.LEVEL <- l; LOCATION_CONFIG.SIZE <- z` (40_bus_register_access.md R108). -/
def State.storeConfig (s : State) (l : LevelCode) (z : SizeField) : State :=
  { s with level := l, size := z }

/-- `PAGE_CTRL.MODE <- v` (40_bus_register_access.md R110). -/
def State.storePageMode (s : State) (v : Word) : State := { s with pageMode := v }

/-- `frag[k] <- v` for k = 0..5 (40_bus_register_access.md R112 to R117). -/
def State.storeFrag (s : State) (k : Fin 6) (v : Word) : State :=
  { s with frag := s.frag.set k.val v k.isLt }

/-- `frag[6].DATA <- v; frag[6].VALID <- valid` (40_bus_register_access.md R118, R119). -/
def State.storeFrag6 (s : State) (v : BitVec 16) (valid : Bool) : State :=
  { s with frag6Data := v, frag6Valid := valid }

/-- The job of a trigger: LEVEL, SIZE and the syndrome as they stand (40_bus_register_access.md R119). -/
def State.sampledJob (s : State) : Job :=
  { level := s.level, size := s.size, syn := syndromeOf s.frag6Data s.frag }

/-- `job <- some ...`, sampling the operands in this step (41_engine_steps.md R141). -/
def State.createJob (s : State) : State := { s with job := some s.sampledJob }

/-! ## The engine's own steps -/

/-- The effect of `ENGINE.RESET_DONE` (41_engine_steps.md R140). Every `draw` is a free value (log 3). -/
def State.completeReset (s : State) : State :=
  { s with
    idleMode := Config.draw 2 s.draws
    done0 := doneAtReset
    level := Config.draw 2 (s.draws + 1)
    size := Config.draw 11 (s.draws + 2)
    pageMode := Config.draw 32 (s.draws + 3)
    frag := Vector.replicate 6 0
    frag6Data := 0
    frag6Valid := false
    correctable := Config.drawBit (s.draws + 4)
    nbErrors := Config.draw 5 (s.draws + 5)
    errLoc := slotsOf [] (s.draws + 6)
    job := none
    resetPending := false
    resetDone := resetDoneAtCompletion
    draws := s.draws + 22 }

/-- The effect of `ENGINE.DECODE_DONE` with verdict `v`: the one operation that takes the completion event,
the analogue of exception entry (41_engine_steps.md R142, 60_exceptions.md R214). It saves the verdict, the
count and the locations, sets DONE0 and ends the job. -/
def State.publish (s : State) (v : Verdict) : State :=
  { s with
    correctable := correctableAfter v
    nbErrors := countAfter v s.draws
    errLoc := slotsOf (locationsOf v) (s.draws + 1)
    frag6Valid := Config.drawBit (s.draws + 17)
    done0 := doneAtCompletion
    job := none
    draws := s.draws + 18 }

/-! ## The marks -/

/-- An engine whose state is not defined: every register and the hidden state hold free values
(40_bus_register_access.md R126: "the state of the engine after the fault is not defined"; log 6). -/
def State.corruptEngine (s : State) : State :=
  { s with
    idleMode := Config.draw 2 s.draws
    resetDone := Config.drawBit (s.draws + 1)
    done0 := Config.drawBit (s.draws + 2)
    level := Config.draw 2 (s.draws + 3)
    size := Config.draw 11 (s.draws + 4)
    pageMode := Config.draw 32 (s.draws + 5)
    frag := Vector.ofFn fun k => Config.draw 32 (s.draws + 6 + k.val)
    frag6Data := Config.draw 16 (s.draws + 12)
    frag6Valid := Config.drawBit (s.draws + 13)
    correctable := Config.drawBit (s.draws + 14)
    nbErrors := Config.draw 5 (s.draws + 15)
    errLoc := slotsOf [] (s.draws + 16)
    resetPending := Config.drawBit (s.draws + 32)
    job :=
      if Config.drawBit (s.draws + 33) then
        some
          { level := Config.draw 2 (s.draws + 34)
            size := Config.draw 11 (s.draws + 35)
            syn := Config.draw 208 (s.draws + 36) }
      else none
    draws := s.draws + 37 }

/-- `fault <- true`, with the reason (10_state.md R45). Overlapping use leaves the engine undefined (60_exceptions.md
R211); the other two faults leave it alone (R212, R213). -/
def State.markFault (s : State) (r : Fault) : State :=
  match r with
  | .overlappingUse => { s.corruptEngine with fault := some r }
  | .reservedLevel => { s with fault := some r }
  | .countOutOfRange => { s with fault := some r }

/-- `refused <- true`, with the reason; nothing else changes (10_state.md R45, 60_exceptions.md R209). -/
def State.markRefused (s : State) (r : Refusal) : State := { s with refused := some r }

/-- The name a request is refused under at the boundary (30_encoding.md R83 a, b). -/
def refusalOf : DecodeError → Refusal
  | .width => .width
  | .misaligned => .misaligned
  | .unmapped => .unmapped

/-! ## The host software's state -/

/-- The schedule moves on by one turn. -/
def State.setTurns (s : State) (ts : List Agent) : State := { s with turns := ts }

/-- One turn past the end of the written schedule is used up. -/
def State.useFreeTurn (s : State) : State := { s with freeTurns := s.freeTurns + 1 }

/-- Caller `k` becomes `c`. -/
def State.setCaller (s : State) (k : Nat) (c : Caller) : State := { s with callers := s.callers.set k c }

/-- The platform creates an instance (10_state.md R46; log 15). -/
def State.addInstance (s : State) (inst : Instance) : State := { s with instances := s.instances ++ [inst] }

/-- `inst.level <- level` (43_registry_operations.md R192). -/
def State.storeLevel (s : State) (handle : Nat) (level : Strength) : State :=
  { s with instances := s.instances.modify handle fun inst => { inst with level := level } }

/-- `registry <- registry ++ [inst]` (43_registry_operations.md R191). -/
def State.appendRegistry (s : State) (handle : Nat) : State := { s with registry := s.registry ++ [handle] }

end Sys2Proof.Machine
end

