-- ==== Sys2Proof/Machine/ConfigRegisters.lean ====
section
/-! DEFINITION. The transactions on LOCATION_CONFIG and PAGE_CTRL (40_bus_register_access.md R107 to R110). -/

namespace Sys2Proof.Machine

open Sys2Proof

/-- RD.LOCATION_CONFIG (40_bus_register_access.md R107). -/
def execRdLocationConfig (s : State) : Result :=
  afterReset s (.next (s.answerNamed fun w => setField (setField w 0 s.level) 16 s.size))

/-- WR.LOCATION_CONFIG (40_bus_register_access.md R108): the reserved level is stored without complaint. -/
def execWrLocationConfig (data : Word) (s : State) : Result :=
  afterReset s (whenNoJob s (.next (s.storeConfig (levelOf data) (bufferSizeOf data))))

/-- RD.PAGE_CTRL (40_bus_register_access.md R109): no reserved bits. -/
def execRdPageCtrl (s : State) : Result := afterReset s (.next (s.answer s.pageMode))

/-- WR.PAGE_CTRL (40_bus_register_access.md R110): a non-zero mode is stored. -/
def execWrPageCtrl (data : Word) (s : State) : Result :=
  afterReset s (whenNoJob s (.next (s.storePageMode data)))

end Sys2Proof.Machine
end

