-- ==== Sys2Proof/Machine/Fragments.lean ====
section
/-! DEFINITION. The transactions on SYNDROME_FRAGMENT_0 to 6 (40_bus_register_access.md R111 to R119). -/

namespace Sys2Proof.Machine

open Sys2Proof

/-- A read of fragment k = 0..5, all 32 bits named (40_bus_register_access.md R111). -/
def readFrag (k : Fin 6) (s : State) : Result := afterReset s (.next (s.answer s.frag[k]))

/-- A write of fragment k = 0..5 (40_bus_register_access.md R112 to R117). -/
def writeFrag (k : Fin 6) (data : Word) (s : State) : Result :=
  afterReset s (whenNoJob s (.next (s.storeFrag k data)))

/-- RD.SF0 (40_bus_register_access.md R111). -/
def execRdSf0 (s : State) : Result := readFrag 0 s

/-- RD.SF1 (40_bus_register_access.md R111). -/
def execRdSf1 (s : State) : Result := readFrag 1 s

/-- RD.SF2 (40_bus_register_access.md R111). -/
def execRdSf2 (s : State) : Result := readFrag 2 s

/-- RD.SF3 (40_bus_register_access.md R111). -/
def execRdSf3 (s : State) : Result := readFrag 3 s

/-- RD.SF4 (40_bus_register_access.md R111). -/
def execRdSf4 (s : State) : Result := readFrag 4 s

/-- RD.SF5 (40_bus_register_access.md R111). -/
def execRdSf5 (s : State) : Result := readFrag 5 s

/-- RD.SF6 (40_bus_register_access.md R111): DATA and VALID named, the rest free. -/
def execRdSf6 (s : State) : Result :=
  afterReset s (.next (s.answerNamed fun w =>
    setField (setField w 0 s.frag6Data) 16 (BitVec.ofBool s.frag6Valid)))

/-- WR.SF0 (40_bus_register_access.md R112). -/
def execWrSf0 (data : Word) (s : State) : Result := writeFrag 0 data s

/-- WR.SF1 (40_bus_register_access.md R113). -/
def execWrSf1 (data : Word) (s : State) : Result := writeFrag 1 data s

/-- WR.SF2 (40_bus_register_access.md R114). -/
def execWrSf2 (data : Word) (s : State) : Result := writeFrag 2 data s

/-- WR.SF3 (40_bus_register_access.md R115). -/
def execWrSf3 (data : Word) (s : State) : Result := writeFrag 3 data s

/-- WR.SF4 (40_bus_register_access.md R116). -/
def execWrSf4 (data : Word) (s : State) : Result := writeFrag 4 data s

/-- WR.SF5 (40_bus_register_access.md R117). -/
def execWrSf5 (data : Word) (s : State) : Result := writeFrag 5 data s

/-- WR.SF6 (40_bus_register_access.md R118): stores without a trigger. -/
def execWrSf6 (data : Word) (s : State) : Result :=
  afterReset s (whenNoJob s (.next (s.storeFrag6 (frag6DataOf data) false)))

/-- WR.SF6.TRIG (40_bus_register_access.md R119): stores and starts a decode with the operands as they stand
after the store, whatever VALID held before. -/
def execWrSf6Trig (data : Word) (s : State) : Result :=
  afterReset s (whenNoJob s (whenTriggerable s (.next (s.storeFrag6 (frag6DataOf data) true).createJob)))

end Sys2Proof.Machine
end

