-- ==== Sys2Proof/Machine/ResultRegisters.lean ====
section
/-! DEFINITION. The transactions on LOCATION_STATUS and ERROR_LOCATION_0 to 15 (40_bus_register_access.md R122 to R125). -/

namespace Sys2Proof.Machine

open Sys2Proof

/-- RD.LOCATION_STATUS (40_bus_register_access.md R122): wholly free while a job is present. -/
def execRdLocationStatus (s : State) : Result :=
  afterReset s (.next (s.answerNamed fun w =>
    if s.job.isSome then w
    else setField (setField w 8 (BitVec.ofBool s.correctable)) 0 s.nbErrors))

/-- WR.LOCATION_STATUS (40_bus_register_access.md R123): no meaning. -/
def execWrLocationStatus (_data : Word) (s : State) : Result := afterReset s (.refused .readOnly)

/-- RD.ERRLOC (40_bus_register_access.md R124): wholly free while a job is present. -/
def execRdErrloc (i : BitVec 4) (s : State) : Result :=
  afterReset s (.next (s.answerNamed fun w =>
    if s.job.isSome then w else setField w 0 (s.errLoc[i.toFin])))

/-- WR.ERRLOC (40_bus_register_access.md R125): no meaning. -/
def execWrErrloc (_i : BitVec 4) (_data : Word) (s : State) : Result := afterReset s (.refused .readOnly)

end Sys2Proof.Machine
end

