-- ==== Sys2Proof/Machine/SystemRegisters.lean ====
section
/-! DEFINITION. The transactions on SYSCONFIG, SYSSTATUS and IRQSTATUS (40_bus_register_access.md R100 to R106). -/

namespace Sys2Proof.Machine

open Sys2Proof

/-- RD.SYSCONFIG (40_bus_register_access.md R100). -/
def execRdSysconfig (s : State) : Result :=
  unlessResetting s (.next (s.answerNamed fun w =>
    if s.poweredUnreset then w else setField (setField w 1 (0 : BitVec 1)) 3 s.idleMode))

/-- WR.SYSCONFIG.SRST (40_bus_register_access.md R101): all data bits but bit 1 are discarded. -/
def execWrSysconfigSrst (_data : Word) (s : State) : Result :=
  unlessResetting s (whenNoJob s (.next s.startReset))

/-- WR.SYSCONFIG (40_bus_register_access.md R102); admitted while a job is present. -/
def execWrSysconfig (data : Word) (s : State) : Result :=
  afterReset s (.next (s.storeIdleMode (idleModeOf data)))

/-- RD.SYSSTATUS (40_bus_register_access.md R103): always admitted. -/
def execRdSysstatus (s : State) : Result :=
  .next (s.answerNamed fun w =>
    if s.poweredUnreset then w else setField w 0 (BitVec.ofBool s.resetDone))

/-- WR.SYSSTATUS (40_bus_register_access.md R104): no meaning. -/
def execWrSysstatus (_data : Word) (s : State) : Result := afterReset s (.refused .readOnly)

/-- RD.IRQSTATUS (40_bus_register_access.md R105): does not clear DONE0. -/
def execRdIrqstatus (s : State) : Result :=
  afterReset s (.next (s.answerNamed fun w => setField w 0 (BitVec.ofBool s.done0)))

/-- WR.IRQSTATUS, write-1-to-clear (40_bus_register_access.md R106); admitted while a job is present. -/
def execWrIrqstatus (data : Word) (s : State) : Result := afterReset s (.next (s.acknowledge data))

end Sys2Proof.Machine
end

