-- ==== Sys2Proof/Machine/Dispatch.lean ====
section
/-! DEFINITION. One arm per transaction of 30_encoding.md R82. -/

namespace Sys2Proof.Machine

open Sys2Proof

def exec (i : Instr) (s : State) : Host.Outcome State Fault Refusal :=
  match i with
  | .rdSysconfig => Sys2Proof.Machine.execRdSysconfig s
  | .wrSysconfigSrst data => Sys2Proof.Machine.execWrSysconfigSrst data s
  | .wrSysconfig data => Sys2Proof.Machine.execWrSysconfig data s
  | .rdSysstatus => Sys2Proof.Machine.execRdSysstatus s
  | .wrSysstatus data => Sys2Proof.Machine.execWrSysstatus data s
  | .rdIrqstatus => Sys2Proof.Machine.execRdIrqstatus s
  | .wrIrqstatus data => Sys2Proof.Machine.execWrIrqstatus data s
  | .rdLocationConfig => Sys2Proof.Machine.execRdLocationConfig s
  | .wrLocationConfig data => Sys2Proof.Machine.execWrLocationConfig data s
  | .rdPageCtrl => Sys2Proof.Machine.execRdPageCtrl s
  | .wrPageCtrl data => Sys2Proof.Machine.execWrPageCtrl data s
  | .rdSf0 => Sys2Proof.Machine.execRdSf0 s
  | .rdSf1 => Sys2Proof.Machine.execRdSf1 s
  | .rdSf2 => Sys2Proof.Machine.execRdSf2 s
  | .rdSf3 => Sys2Proof.Machine.execRdSf3 s
  | .rdSf4 => Sys2Proof.Machine.execRdSf4 s
  | .rdSf5 => Sys2Proof.Machine.execRdSf5 s
  | .rdSf6 => Sys2Proof.Machine.execRdSf6 s
  | .wrSf0 data => Sys2Proof.Machine.execWrSf0 data s
  | .wrSf1 data => Sys2Proof.Machine.execWrSf1 data s
  | .wrSf2 data => Sys2Proof.Machine.execWrSf2 data s
  | .wrSf3 data => Sys2Proof.Machine.execWrSf3 data s
  | .wrSf4 data => Sys2Proof.Machine.execWrSf4 data s
  | .wrSf5 data => Sys2Proof.Machine.execWrSf5 data s
  | .wrSf6 data => Sys2Proof.Machine.execWrSf6 data s
  | .wrSf6Trig data => Sys2Proof.Machine.execWrSf6Trig data s
  | .rdLocationStatus => Sys2Proof.Machine.execRdLocationStatus s
  | .wrLocationStatus data => Sys2Proof.Machine.execWrLocationStatus data s
  | .rdErrloc k => Sys2Proof.Machine.execRdErrloc k s
  | .wrErrloc k data => Sys2Proof.Machine.execWrErrloc k data s

end Sys2Proof.Machine
end

