-- ==== Sys2Proof/Machine/Engine.lean ====
section
/-! DEFINITION. The steps the engine takes by itself (41_engine_steps.md). It takes no other (R144): scheduled
while its step is not enabled, an agent of the engine does nothing (log 21). -/

namespace Sys2Proof.Machine

open Sys2Proof

/-- `ENGINE.RESET_DONE`, enabled when `reset_pending` (41_engine_steps.md R140). -/
def engineResetStep (s : State) : State := if s.resetPending then s.completeReset else s

/-- `ENGINE.DECODE_DONE`, enabled when a job is present (41_engine_steps.md R142). -/
def engineDecodeStep (s : State) : State :=
  match s.job with
  | some j => s.publish (locate j.level j.size j.syn)
  | none => s

end Sys2Proof.Machine
end

