-- ==== Sys2Proof/Machine/Protocol.lean ====
section
/-! DEFINITION. The protocol and registry operations as lines of transactions and software
(30_encoding.md R86, 42_protocol_operations.md, 43_registry_operations.md), and the phase a bare transaction leads to
(42_protocol_operations.md R161). -/

namespace Sys2Proof.Machine

open Sys2Proof

/-- The five lines of `reset`, or of `reset_b` (42_protocol_operations.md R162, R171). -/
def resetLines (bound : Option Nat) : List Line :=
  [.readSysconfig, .writeSoftReset, .pollResetDone bound, .readSysconfig, .writeSmartIdle]

/-- The two transactions of `configure` (42_protocol_operations.md R164). -/
def configureLines (level : Strength) : List Line := [.writeConfig level, .writeContinuous]

/-- `load_syndrome`: the strength is checked, the buffer filled, four words written
(42_protocol_operations.md R163, R165). -/
def loadLines (handle : Nat) (src : Payload) : List Line :=
  [.checkPayload handle src, .fillBuffer src, .writeFragment 0, .writeFragment 1, .writeFragment 2, .writeFragment 3]

/-- The two lines of `start` (42_protocol_operations.md R166). -/
def startLines : List Line := [.readFragment6, .writeTrigger]

/-- The two lines of `await_completion`, or of `await_completion_b` (42_protocol_operations.md R167, R171). -/
def awaitLines (bound : Option Nat) : List Line := [.pollDone bound, .acknowledge]

/-- The first line of `classify`; what it reads decides the rest (42_protocol_operations.md R168). -/
def classifyLines : List Line := [.readStatus]

/-- The expansion of an operation (30_encoding.md R86). `configure` first stores the strength in the instance, since
`inst.level` is "the currently configured ECC strength" (10_state.md R46; DEDUCED, log 27). What `request` and the last
part of `register` write depends on an instance, so their lines `lookup` and `configureStored` lay out the rest. -/
def linesOf : Operation → List Line
  | .reset bound => resetLines bound ++ [.returnCompleted]
  | .configure handle level => .storeLevel handle level :: (configureLines level ++ [.returnCompleted])
  | .loadSyndrome handle src => loadLines handle src ++ [.returnCompleted]
  | .start => startLines ++ [.returnCompleted]
  | .awaitCompletion bound => awaitLines bound ++ [.returnCompleted]
  | .classify => classifyLines
  | .decode handle src bound => loadLines handle src ++ startLines ++ awaitLines bound ++ classifyLines
  | .register handle bound =>
    .appendInstance handle :: (resetLines bound ++ [.configureStored handle, .returnCompleted])
  | .request level => [.lookup level]

/-- The transaction a line issues, `none` for a line of software. A poll whose bound is used up issues none
(42_protocol_operations.md R171). -/
def transactionOf (c : Caller) : Line → Option Instr
  | .readSysconfig => some .rdSysconfig
  | .writeSoftReset => some (sysconfigWrite (softResetValue c.latch))
  | .pollResetDone bound => if bound = some 0 then none else some .rdSysstatus
  | .writeSmartIdle => some (sysconfigWrite (smartIdleValue c.latch))
  | .writeConfig level => some (.wrLocationConfig (configValue level))
  | .writeContinuous => some (.wrPageCtrl 0)
  | .writeFragment k =>
    match k with
    | 0 => some (.wrSf0 (bufferWord c.synBuffer 0))
    | 1 => some (.wrSf1 (bufferWord c.synBuffer 1))
    | 2 => some (.wrSf2 (bufferWord c.synBuffer 2))
    | 3 => some (.wrSf3 (bufferWord c.synBuffer 3))
  | .readFragment6 => some .rdSf6
  | .writeTrigger => some (fragment6Write (triggerValue c.latch))
  | .pollDone bound => if bound = some 0 then none else some .rdIrqstatus
  | .acknowledge => some (.wrIrqstatus acknowledgeValue)
  | .readStatus => some .rdLocationStatus
  | .readSlot i => some (.rdErrloc i)
  | .storeLevel _ _ | .checkPayload _ _ | .fillBuffer _
  | .returnCorrectable | .returnUncorrectable | .returnToConfigured
  | .appendInstance _ | .configureStored _ | .lookup _ | .returnHandle _ | .returnCompleted => none

/-- The caller gets `r` back. -/
def Caller.give (c : Caller) (r : Return) : Caller := { c with returned := r :: c.returned }

/-- The running operation ends at once with the error `r` (42_protocol_operations.md R171,
43_registry_operations.md R192). Where a bounded wait stands inside `decode` or `register`, the WHOLE operation ends
with it: nothing after the wait is done, so a `register` that times out leaves its instance in the registry and not
configured. The spec bounds `reset` and `await_completion` only; DESIGN CHOICE, log 28. -/
def Caller.abandon (c : Caller) (r : Return) : Caller := { c with code := [], returned := r :: c.returned }

/-- `reads n`: lines that read slots 0 to n-1 in ascending order (42_protocol_operations.md R168 line 4). -/
def slotReads (n : Nat) : List Line := (List.range n).map fun i => .readSlot (BitVec.ofNat 4 i)

/-- What a caller does with the LOCATION_STATUS value it read (42_protocol_operations.md R168 lines 2 to 7,
60_exceptions.md R213). -/
def classifyStatus (s : Word) (c : Caller) : Except Fault Caller :=
  if correctableOf s then
    if 16 < (countOf s).toNat then .error .countOutOfRange
    else .ok { c with locs := [], code := slotReads (countOf s).toNat ++ .returnCorrectable :: c.code }
  else .ok { c with code := .returnUncorrectable :: c.code }

/-- What a caller does when the transaction of its line is done, `w` being the value read; its `code` no longer
holds the line. The phase assignments are those of 42_protocol_operations.md R161 to R168. -/
def afterLine (l : Line) (w : Word) (c : Caller) : Except Fault Caller :=
  match l with
  | .readSysconfig => .ok { c with latch := w }
  | .writeSoftReset => .ok { c with phase := .resetting }
  | .pollResetDone bound =>
    if statusBitOf w then .ok c
    else .ok { c with code := .pollResetDone (bound.map (· - 1)) :: c.code }
  | .writeSmartIdle => .ok { c with phase := .configured }
  | .writeContinuous => .ok { c with phase := .configured }
  | .writeFragment k => if k = 3 then .ok { c with phase := .syndromeLoaded } else .ok c
  | .readFragment6 => .ok { c with latch := w }
  | .writeTrigger => .ok { c with phase := .processing }
  | .pollDone bound =>
    if statusBitOf w then .ok c
    else .ok { c with code := .pollDone (bound.map (· - 1)) :: c.code }
  | .acknowledge => .ok { c with phase := .done }
  | .readStatus => classifyStatus w c
  | .readSlot _ => .ok { c with locs := c.locs ++ [locationOf w] }
  | .storeLevel _ _ | .writeConfig _ | .checkPayload _ _ | .fillBuffer _
  | .returnCorrectable | .returnUncorrectable | .returnToConfigured
  | .appendInstance _ | .configureStored _ | .lookup _ | .returnHandle _ | .returnCompleted => .ok c

/-- The phase from which a transaction of a caller starts: "the engine returns to CONFIGURED implicitly after
classification", that is with the first transaction that is no result read (42_protocol_operations.md R161;
DEDUCED, log 10). -/
def phaseBefore (i : Instr) (p : Phase) : Phase :=
  match p, i with
  | .correctable, .rdErrloc _ => .correctable
  | .correctable, _ => .configured
  | .uncorrectable, _ => .configured
  | .idle, _ => .idle
  | .resetting, _ => .resetting
  | .configured, _ => .configured
  | .syndromeLoaded, _ => .syndromeLoaded
  | .processing, _ => .processing
  | .done, _ => .done

/-- The phase after a bare transaction `i` done in state `s` with read value `w`: the rows of
42_protocol_operations.md R161 that the transaction's hardware action stands in (ghost state; DEDUCED, log 10). -/
def phaseAfter (i : Instr) (s : State) (w : Word) (p : Phase) : Phase :=
  match i with
  | .wrSysconfigSrst _ => .resetting
  | .wrSysconfig data =>
    if phaseBefore i p = .resetting ∧ idleModeOf data = 0b10#2 then .configured else phaseBefore i p
  | .wrSf3 _ => if phaseBefore i p = .configured then .syndromeLoaded else phaseBefore i p
  | .wrSf6Trig _ => .processing
  | .wrIrqstatus data =>
    if phaseBefore i p = .processing ∧ s.done0 = true ∧ data.getLsbD 0 = true then .done else phaseBefore i p
  | .rdLocationStatus =>
    if phaseBefore i p = .done then
      if correctableOf w then .correctable else .uncorrectable
    else phaseBefore i p
  | .rdSysconfig | .rdSysstatus | .wrSysstatus _ | .rdIrqstatus
  | .rdLocationConfig | .wrLocationConfig _ | .rdPageCtrl | .wrPageCtrl _
  | .rdSf0 | .rdSf1 | .rdSf2 | .rdSf3 | .rdSf4 | .rdSf5 | .rdSf6
  | .wrSf0 _ | .wrSf1 _ | .wrSf2 _ | .wrSf4 _ | .wrSf5 _ | .wrSf6 _
  | .wrLocationStatus _ | .rdErrloc _ | .wrErrloc _ _ => phaseBefore i p

end Sys2Proof.Machine
end

