-- ==== Sys2Proof/Machine/Callers.lean ====
section
/-! DEFINITION. One turn of a host caller: one transaction or one line of software
(10_state.md R21 a, 20_memory.md R56; log 8). A fault or refusal sets the sticky mark (10_state.md R45; log 5). -/

namespace Sys2Proof.Machine

open Sys2Proof

/-- Caller `k`, being `c` once this turn is over, issues the transaction `i`; `after` says what it makes of the
value read. A transaction that faults or is refused has no other effect (60_exceptions.md R209). -/
def issue (k : Nat) (c : Caller) (i : Instr) (after : Word → Caller → Except Fault Caller) (s : State) : State :=
  match exec i s with
  | .next t =>
    match after t.readData c with
    | .ok c' => t.setCaller k c'
    | .error r => t.markFault r
  | .fault r => s.markFault r
  | .refused r => s.markRefused r

/-- What a caller makes of a bare transaction: the value read or the fact that the write was done. -/
def afterBare (i : Instr) (isWrite : Bool) (s : State) (w : Word) (c : Caller) : Except Fault Caller :=
  .ok { c with
    phase := phaseAfter i s w c.phase
    returned := (if isWrite then .written else .value w) :: c.returned }

/-- A bare request: decoded at the boundary, then issued (60_exceptions.md R209 checks 1, 2, then the rest). -/
def runRequest (k : Nat) (c : Caller) (r : BusRequest) (s : State) : State :=
  match decodeRequest r with
  | .error e => s.markRefused (refusalOf e)
  | .ok i => issue k c i (afterBare i r.bits.isWrite s) s

/-- A line that needs the instance `handle`: refused where the platform has created none (log 16). -/
def withInstance (handle : Nat) (s : State) (f : Instance → State) : State :=
  match s.instances[handle]? with
  | none => s.markRefused .noSuchInstance
  | some inst => f inst

/-- The strength check of `load_syndrome`: a length that is not supplied is refused (42_protocol_operations.md R163), and
so is one beyond the four words that are written, and a payload of another length (log 14). -/
def checkPayload (k : Nat) (c : Caller) (handle : Nat) (src : Payload) (s : State) : State :=
  withInstance handle s fun inst =>
    match Config.payloadLen inst.level with
    | none => s.markRefused .payloadLengthOpen
    | some n =>
      if 16 < n then s.markRefused .payloadTooLong
      else if src.length = n then s.setCaller k c
      else s.markRefused .payloadLengthMismatch

/-- `request`: `DeviceNotFound` on an empty registry, else the first instance takes the strength and the lines of
`configure` follow (43_registry_operations.md R192). -/
def lookup (k : Nat) (c : Caller) (level : Strength) (s : State) : State :=
  match s.registry with
  | [] => s.setCaller k (c.abandon .errDeviceNotFound)
  | handle :: _ =>
    withInstance handle s fun _ =>
      (s.storeLevel handle level).setCaller k
        { c with code := configureLines level ++ .returnHandle handle :: c.code }

/-- A line of software. A poll that gets here has used up its bound (42_protocol_operations.md R171). -/
def runSoftware (k : Nat) (l : Line) (c : Caller) (s : State) : State :=
  match l with
  | .storeLevel handle level => withInstance handle s fun _ => (s.storeLevel handle level).setCaller k c
  | .checkPayload handle src => checkPayload k c handle src s
  | .fillBuffer src => s.setCaller k { c with synBuffer := padded (rotate src) }
  | .returnCorrectable =>
    s.setCaller k
      { (c.give (.correctable c.locs.length c.locs)) with
        phase := .correctable, code := .returnToConfigured :: c.code }
  | .returnUncorrectable =>
    s.setCaller k
      { (c.give .errUncorrectable) with phase := .uncorrectable, code := .returnToConfigured :: c.code }
  | .returnToConfigured => s.setCaller k { c with phase := .configured }
  | .appendInstance handle => withInstance handle s fun _ => (s.appendRegistry handle).setCaller k c
  | .configureStored handle =>
    withInstance handle s fun inst => s.setCaller k { c with code := configureLines inst.level ++ c.code }
  | .lookup level => lookup k c level s
  | .returnHandle h => s.setCaller k (c.give (.handle h))
  | .returnCompleted => s.setCaller k (c.give .completed)
  | .pollResetDone _ | .pollDone _ => s.setCaller k (c.abandon .errTimeout)
  | .readSysconfig | .writeSoftReset | .writeSmartIdle | .writeConfig _ | .writeContinuous
  | .writeFragment _ | .readFragment6 | .writeTrigger | .acknowledge | .readStatus | .readSlot _ =>
    s.setCaller k c

/-- One line of the running operation; `c` is the caller without that line. -/
def runLine (k : Nat) (l : Line) (c : Caller) (s : State) : State :=
  match transactionOf c l with
  | some i => issue k c i (afterLine l) s
  | none => runSoftware k l c s

/-- One turn of caller `k`: a line of its running operation, else its next command; a caller with nothing to do,
and one that does not exist, does nothing (log 21). Calling an operation is a turn of its own (log 8), and so is the
platform's creating an instance, whose handle the caller gets (log 15). -/
def callerStep (k : Nat) (s : State) : State :=
  match s.callers[k]? with
  | none => s
  | some c =>
    match c.code with
    | l :: rest => runLine k l { c with code := rest } s
    | [] =>
      match c.commands with
      | [] => s
      | .transaction r :: rest => runRequest k { c with commands := rest } r s
      | .operation op :: rest => s.setCaller k { c with commands := rest, code := linesOf op }
      | .probe inst :: rest =>
        (s.addInstance inst).setCaller k
          { c with commands := rest, returned := .handle s.instances.length :: c.returned }

/-- One turn of an agent (10_state.md R21). -/
def agentStep (a : Agent) (s : State) : State :=
  match a with
  | .caller k => callerStep k s
  | .engineReset => Sys2Proof.Machine.engineResetStep s
  | .engineDecode => Sys2Proof.Machine.engineDecodeStep s

/-- Whose turn it is `n` turns from now: the place in the written schedule, or past its end the free value of that
turn. Free turns are counted one by one, so that no place of `Config.freeTurn` is passed over (log 7). -/
def turnAt (s : State) (n : Nat) : Agent :=
  s.turns.getD n (Config.freeTurn (s.freeTurns + (n - s.turns.length)))

/-- Whose turn it is. -/
def turnOf (s : State) : Agent := turnAt s 0

/-- The state in which the agent of this turn moves: the turn is used up. -/
def afterTurn (s : State) : State :=
  match s.turns with
  | _ :: ts => s.setTurns ts
  | [] => s.useFreeTurn

/-- One step of a machine without a mark. -/
def turnStep (s : State) : State := agentStep (turnOf s) (afterTurn s)

/-- The caller that holds the word to fetch: its running operation is set aside and the bare transaction comes
before its other commands. -/
def Caller.asks (c : Caller) (r : BusRequest) : Caller :=
  { c with code := [], commands := .transaction r :: c.commands }

/-- The phase the engine's hidden state stands for, by the relation of 10_state.md R23. -/
def phaseOf (s : State) : Phase :=
  if s.poweredUnreset then .idle
  else if s.resetPending then .resetting
  else if s.job.isSome then .processing
  else .configured

/-- Caller 0, or a new one where there is none, asks for `r` first. The spec gives the initial phase IDLE (10_state.md
R22) and says nothing of a caller that comes in mid-run: a new one takes the phase `p` that the engine's hidden state
stands for; DESIGN CHOICE, log 29. -/
def callersAsking (p : Phase) (r : BusRequest) : List Caller → List Caller
  | [] => [(Caller.fresh p).asks r]
  | c :: cs => c.asks r :: cs

end Sys2Proof.Machine
end

