-- ==== Sys2Proof/Machine/Step.lean ====
section
/-! DEFINITION. One step of the machine, and how a transaction is put where the next step takes it. -/

namespace Sys2Proof.Machine

open Sys2Proof

/-- One step: a marked machine stops with the reason of its mark (10_state.md R45: "a state with either mark set
supports no claim about later behaviour"; log 5); otherwise the agent whose turn it is moves. -/
def step (s : State) : Host.Outcome State Fault Refusal :=
  match s.fault with
  | some r => .fault r
  | none =>
    match s.refused with
    | some r => .refused r
    | none => .next (turnStep s)

/-- The 32-bit transaction `w` as caller 0's next command, and the next turn caller 0's: the machine fetches
nothing by itself, transactions come from its callers (log 9). -/
def State.withFetchWord (s : State) (nbits w : Nat) : State :=
  { s with
    callers := callersAsking (phaseOf s) { width := .word, bits := BitVec.ofNat 45 (w % 2 ^ nbits) } s.callers
    turns := .caller 0 :: s.turns }

end Sys2Proof.Machine
end

