-- ==== Sys2Proof/Safety.lean ====
section
/-! DEFINITION. The terms claims are stated in: unmarked and consistent states, finished and exclusive runs, fair
schedules, and an optional assumption about the location function. -/

namespace Sys2Proof

open Machine

/-- Neither mark is set, so that the state supports claims (10_state.md R45). -/
abbrev Unmarked (s : State) : Prop := s.fault = none ∧ s.refused = none

/-- The engine is past its first reset and in none (40_bus_register_access.md R127, third row). -/
abbrev Running (s : State) : Prop := s.poweredUnreset = false ∧ s.resetPending = false

/-- How the engine's hidden state and flags hang together in every run without a mark: at most one of
`powered_unreset`, `reset_pending`, `job` (10_state.md R23, derived there), RESETDONE low during a reset and high
after one (R31), VALID high while a job is present (40_bus_register_access.md R111), no job at the reserved level
(41_engine_steps.md R146). -/
structure Consistent (s : State) : Prop where
  resetting_not_powered : s.resetPending = true → s.poweredUnreset = false
  resetting_no_job : s.resetPending = true → s.job = none
  powered_no_job : s.poweredUnreset = true → s.job = none
  resetting_resetDone : s.resetPending = true → s.resetDone = false
  running_resetDone : Running s → s.resetDone = true
  job_valid : s.job.isSome = true → s.frag6Valid = true
  job_level : ∀ j, s.job = some j → (strengthOf j.level).isSome = true

/-- Every handle of the registry is an instance's (10_state.md R46). -/
abbrev HandlesExist (s : State) : Prop := ∀ h ∈ s.registry, h < s.instances.length

/-- Every caller has returned from its last operation (42_protocol_operations.md R175). -/
abbrev CallersDone (s : State) : Prop := ∀ c ∈ s.callers, c.code = [] ∧ c.commands = []

/-- A run is finished (42_protocol_operations.md R175). -/
abbrev Finished (s : State) : Prop :=
  CallersDone s ∧ s.job = none ∧ s.resetPending = false ∧ Unmarked s

/-- The premise of 70_reset_and_hazards.md R240 for the written schedule: no caller but `k` moves. -/
abbrev OnlyCaller (k : Nat) (turns : List Agent) : Prop :=
  ∀ a ∈ turns, ∀ j, a = .caller j → j = k

/-- The weak fairness of 41_engine_steps.md R143, for the free part of the schedule: both agents of the engine have a
turn again and again. Every free turn is counted (`turnAt`), and a turn of an agent whose step is not enabled does
nothing, so any weakly fair order of moves is met up to such idle turns (logs 7, 21). No step uses it; a claim about
termination takes it as a premise. -/
abbrev FairTurns : Prop :=
  ∀ n, (∃ m, n ≤ m ∧ Config.freeTurn m = .engineReset) ∧ (∃ m, n ≤ m ∧ Config.freeTurn m = .engineDecode)

/-- The optional assumption `ZeroSyndromeIsClean` (41_engine_steps.md R147 P3), off by default: no definition
and no statement of the model uses it. -/
abbrev ZeroSyndromeIsClean : Prop :=
  ∀ strength : Strength, ∀ size : SizeField, locate (codeOf strength) size 0 = .correctable []

/-- The parts of the state that are not the engine's: a bus transaction leaves them all alone
(10_state.md R20 c, d and the model's own schedule). -/
abbrev SoftwareUnchanged (s t : State) : Prop :=
  t.fault = s.fault ∧ t.refused = s.refused ∧ t.instances = s.instances ∧ t.registry = s.registry ∧
    t.callers = s.callers ∧ t.turns = s.turns ∧ t.freeTurns = s.freeTurns

/-- Nothing changed but the value on the read port and the count of free values used: what a read does to the
machine (20_memory.md R57). -/
abbrev OnlyReadPort (s t : State) : Prop :=
  t = { s with readData := t.readData, draws := t.draws }

/-- The register map: the 29 mapped word offsets (20_memory.md R58). -/
abbrev mappedOffsets : List Offset :=
  [0x010, 0x014, 0x018, 0x020, 0x080,
   0x400, 0x404, 0x408, 0x40C, 0x410, 0x414, 0x418, 0x800,
   0x880, 0x884, 0x888, 0x88C, 0x890, 0x894, 0x898, 0x89C,
   0x8A0, 0x8A4, 0x8A8, 0x8AC, 0x8B0, 0x8B4, 0x8B8, 0x8BC]

/-- The reads of 30_encoding.md R82. -/
abbrev IsRead (i : Instr) : Prop := (encode i).isWrite = false

/-- The transactions that 40_bus_register_access.md R126 makes a fault while a job is present. -/
def disturbsJob : Instr → Bool
  | .wrSysconfigSrst _ | .wrLocationConfig _ | .wrPageCtrl _
  | .wrSf0 _ | .wrSf1 _ | .wrSf2 _ | .wrSf3 _ | .wrSf4 _ | .wrSf5 _ | .wrSf6 _ | .wrSf6Trig _ => true
  | .rdSysconfig | .wrSysconfig _ | .rdSysstatus | .wrSysstatus _ | .rdIrqstatus | .wrIrqstatus _
  | .rdLocationConfig | .rdPageCtrl
  | .rdSf0 | .rdSf1 | .rdSf2 | .rdSf3 | .rdSf4 | .rdSf5 | .rdSf6
  | .rdLocationStatus | .wrLocationStatus _ | .rdErrloc _ | .wrErrloc _ _ => false

/-- The writes to registers the engine alone writes (40_bus_register_access.md R104, R123, R125). -/
def writesReadOnly : Instr → Bool
  | .wrSysstatus _ | .wrLocationStatus _ | .wrErrloc _ _ => true
  | .rdSysconfig | .wrSysconfigSrst _ | .wrSysconfig _ | .rdSysstatus | .rdIrqstatus | .wrIrqstatus _
  | .rdLocationConfig | .wrLocationConfig _ | .rdPageCtrl | .wrPageCtrl _
  | .rdSf0 | .rdSf1 | .rdSf2 | .rdSf3 | .rdSf4 | .rdSf5 | .rdSf6
  | .wrSf0 _ | .wrSf1 _ | .wrSf2 _ | .wrSf3 _ | .wrSf4 _ | .wrSf5 _ | .wrSf6 _ | .wrSf6Trig _
  | .rdLocationStatus | .rdErrloc _ => false

/-- A transaction that 40_bus_register_access.md R127 admits in neither reset state: its refusals there. -/
abbrev RefusedUntilReset (i : Instr) (s : State) : Prop :=
  (s.poweredUnreset = true → exec i s = .refused .beforeReset) ∧
  (s.poweredUnreset = false → s.resetPending = true → exec i s = .refused .duringReset)

/-- The fault of an operand or configuration write while a job is present (40_bus_register_access.md R126). -/
abbrev FaultsOnJob (i : Instr) (s : State) : Prop :=
  Running s → s.job ≠ none → exec i s = .fault .overlappingUse

/-- The read of the register at `off` decodes to `i`, whatever the word's data bits (30_encoding.md R71). -/
abbrev DecodesRead (off : Offset) (i : Instr) : Prop := ∀ data : Word, decode (packTransaction 0 off data) = .ok i

/-- The write of `data` to the register at `off` decodes to `i` (30_encoding.md R70). -/
abbrev DecodesWrite (off : Offset) (data : Word) (i : Instr) : Prop := decode (packTransaction 1 off data) = .ok i

/-- The thirteen bytes of a BCH8 payload (42_protocol_operations.md R165). -/
abbrev Bch8Payload := Vector Byte 13

/-- `X(src)`, the syndrome of a BCH8 payload (42_protocol_operations.md R170). -/
def payloadSyndrome (src : Bch8Payload) : Syndrome :=
  0#104 ++ src[0] ++ src[1] ++ src[2] ++ src[3] ++ src[4] ++ src[5] ++ src[6] ++ src[7] ++ src[8] ++ src[9] ++
    src[10] ++ src[11] ++ src[12]

/-- The words `load_syndrome` leaves in the fragments, fragments 4 and 5 being 0
(42_protocol_operations.md R165). -/
def payloadFragments (src : Bch8Payload) : Vector Word 6 :=
  #v[le32 src[12] src[11] src[10] src[9], le32 src[8] src[7] src[6] src[5],
     le32 src[4] src[3] src[2] src[1], src[0].setWidth 32, 0, 0]

/-- What `decode` returns for a verdict (42_protocol_operations.md R168, R169). -/
def returnOf : Verdict → Return
  | .correctable locs => .correctable locs.length locs
  | .uncorrectable => .errUncorrectable

end Sys2Proof
end

