-- ==== Sys2Proof/Certificates/Slice0/Obligations.lean ====
section
/-! DEFINITION. The statements for the provers. "Decision D<n>" names an entry of spec/92_eei_decisions.md, which
the spec marks as its own choice; "log <n>" is notes/assumptions/<n>.md. -/

open Sys2Proof Sys2Proof.Machine

/-! ## Encoding -/

/-- Decoding an encoded well-formed transaction gives it back, every operand at every value
(30_encoding.md sections 1 and 3). -/
def Obligations.EncodedTransactionsDecodeBack : Prop :=
  ∀ i : Instr, i.wellFormed = true → decode (encode i) = .ok i

/-- 30_encoding.md R82: a word is decoded as a row exactly when it matches the row's mask and match value, rows do
not overlap, and a word that matches no row is not decoded. -/
def Obligations.DecodeFollowsTheOpcodeRows : Prop :=
  ∀ t : Transaction,
    (∀ i, decode t = .ok i → i.wellFormed = true ∧ t &&& rowMask i = rowMatch i) ∧
    (∀ i, i.wellFormed = true → t &&& rowMask i = rowMatch i →
      ∃ j, decode t = .ok j ∧ rowMatch j = rowMatch i ∧ rowMask j = rowMask i)

/-- Requests at the boundary: a narrow access, a misaligned offset and an unmapped offset are refused by name, in
that order of checks, and a 32-bit access to each of the 29 offsets of the map is decoded. Rests on decisions D3 and
D5 (20_memory.md R54, R55; 40_bus_register_access.md R128; 60_exceptions.md R209). -/
def Obligations.BoundaryChecksInOrder : Prop :=
  ∀ r : BusRequest,
    (r.width ≠ .word → decodeRequest r = .error .width) ∧
    (r.width = .word → r.bits.offset.toNat % 4 ≠ 0 → decodeRequest r = .error .misaligned) ∧
    (r.width = .word → r.bits.offset.toNat % 4 = 0 → r.bits.offset ∉ mappedOffsets →
      decodeRequest r = .error .unmapped) ∧
    (r.width = .word → r.bits.offset ∈ mappedOffsets → ∃ i, decodeRequest r = .ok i)

/-- Words of 95_test_vectors.md V5 and V6 decode to the transactions they are listed for. -/
def Obligations.ListedWordsDecode : Prop :=
  decode 0x0010DEADBEEF#45 = .ok .rdSysconfig ∧
  decode 0x101000000012#45 = .ok (.wrSysconfigSrst 0x12) ∧
  decode 0x1010FFFFFFFD#45 = .ok (.wrSysconfig 0xFFFFFFFD) ∧
  decode 0x102007FF0001#45 = .ok (.wrLocationConfig 0x07FF0001) ∧
  decode 0x040C00000000#45 = .ok .rdSf3 ∧
  decode 0x14180000FFFF#45 = .ok (.wrSf6 0xFFFF) ∧
  decode 0x141800010000#45 = .ok (.wrSf6Trig 0x10000) ∧
  decode 0x08A400000000#45 = .ok (.rdErrloc 9) ∧
  decode 0x18BC00000000#45 = .ok (.wrErrloc 15 0) ∧
  decode 0x08C000000000#45 = .error .unmapped

/-! ## SYSCONFIG, SYSSTATUS, IRQSTATUS -/

/-- RD.SYSCONFIG: refused while a reset is pending; before the first reset a wholly free word; otherwise SOFTRESET
reads 0 and IDLEMODE reads as stored. Nothing but the read port changes. SOFTRESET reading 0 is decision D8
(40_bus_register_access.md section 1). -/
def Obligations.ReadSysconfigReturnsIdleMode : Prop :=
  ∀ s : State, DecodesRead 0x010 .rdSysconfig ∧
    (s.resetPending = true → exec .rdSysconfig s = .refused .duringReset) ∧
    (s.resetPending = false → ∃ t, exec .rdSysconfig s = .next t ∧ OnlyReadPort s t ∧
      (s.poweredUnreset = true → t.readData = Config.draw 32 s.draws) ∧
      (s.poweredUnreset = false → t.readData.getLsbD 1 = false ∧ getField t.readData 3 2 = s.idleMode))

/-- WR.SYSCONFIG.SRST: starts a reset, clears RESETDONE, discards its data and changes nothing else; refused during a
reset, a fault while a job is present. Rests on decisions D8 and D13 (40_bus_register_access.md section 1). -/
def Obligations.SoftResetWriteStartsReset : Prop :=
  ∀ (data : Word) (s : State),
    (data.getLsbD 1 = true → DecodesWrite 0x010 data (.wrSysconfigSrst data)) ∧
    (s.resetPending = true → exec (.wrSysconfigSrst data) s = .refused .duringReset) ∧
    (s.resetPending = false → s.job ≠ none → exec (.wrSysconfigSrst data) s = .fault .overlappingUse) ∧
    (s.resetPending = false → s.job = none → exec (.wrSysconfigSrst data) s =
      .next { s with resetPending := true, poweredUnreset := false, resetDone := false })

/-- WR.SYSCONFIG stores DATA[4:3], any value, and nothing else, also while a job is present. That IDLEMODE has no
modelled effect is decision D21 (40_bus_register_access.md section 1). -/
def Obligations.SysconfigWriteStoresIdleMode : Prop :=
  ∀ (data : Word) (s : State),
    (data.getLsbD 1 = false → DecodesWrite 0x010 data (.wrSysconfig data)) ∧
    RefusedUntilReset (.wrSysconfig data) s ∧
    (Running s → exec (.wrSysconfig data) s = .next { s with idleMode := getField data 3 2 })

/-- 40_bus_register_access.md R103: RD.SYSSTATUS is always admitted, its bit 0 is RESETDONE, which is 0 during a reset and
1 after one (in consistent states), the result is wholly free before the first reset, and nothing but the read port
changes. -/
def Obligations.ReadSysstatusReturnsResetDone : Prop :=
  ∀ s : State, DecodesRead 0x014 .rdSysstatus ∧ ∃ t, exec .rdSysstatus s = .next t ∧ OnlyReadPort s t ∧
    (s.poweredUnreset = true → t.readData = Config.draw 32 s.draws) ∧
    (s.poweredUnreset = false → t.readData.getLsbD 0 = s.resetDone) ∧
    (Consistent s → s.resetPending = true → t.readData.getLsbD 0 = false) ∧
    (Consistent s → Running s → t.readData.getLsbD 0 = true)

/-- RD.IRQSTATUS: bit 0 is DONE0, and the read does not clear it (decision D7; 40_bus_register_access.md section 3). -/
def Obligations.ReadIrqstatusReturnsDone : Prop :=
  ∀ s : State, DecodesRead 0x018 .rdIrqstatus ∧ RefusedUntilReset .rdIrqstatus s ∧
    (Running s → ∃ t, exec .rdIrqstatus s = .next t ∧ OnlyReadPort s t ∧ t.readData.getLsbD 0 = s.done0)

/-- WR.IRQSTATUS: a written 1 in bit 0 clears DONE0, a written 0 leaves it, nothing else changes, also while a job
is present. Writing 0 is decision D31 (40_bus_register_access.md section 3). -/
def Obligations.IrqstatusWriteOneClears : Prop :=
  ∀ (data : Word) (s : State),
    DecodesWrite 0x018 data (.wrIrqstatus data) ∧ RefusedUntilReset (.wrIrqstatus data) s ∧
    (Running s → exec (.wrIrqstatus data) s =
      .next { s with done0 := if data.getLsbD 0 = true then false else s.done0 })

/-! ## LOCATION_CONFIG, PAGE_CTRL -/

/-- 40_bus_register_access.md R107: bits 1:0 are LEVEL, bits 26:16 are SIZE; nothing but the read port changes. -/
def Obligations.ReadLocationConfigReturnsFields : Prop :=
  ∀ s : State, DecodesRead 0x020 .rdLocationConfig ∧ RefusedUntilReset .rdLocationConfig s ∧
    (Running s → ∃ t, exec .rdLocationConfig s = .next t ∧ OnlyReadPort s t ∧
      getField t.readData 0 2 = s.level ∧ getField t.readData 16 11 = s.size)

/-- 40_bus_register_access.md R108: LEVEL and SIZE take DATA[1:0] and DATA[26:16]; nothing else changes. -/
def Obligations.LocationConfigWriteStoresFields : Prop :=
  ∀ (data : Word) (s : State),
    DecodesWrite 0x020 data (.wrLocationConfig data) ∧
    RefusedUntilReset (.wrLocationConfig data) s ∧ FaultsOnJob (.wrLocationConfig data) s ∧
    (Running s → s.job = none → exec (.wrLocationConfig data) s =
      .next { s with level := getField data 0 2, size := getField data 16 11 })

/-- What `configure` writes is read back: the strength's code and 2047 (10_state.md section 5, the quoted round-trip
sentence), and writing it twice is writing it once (20_memory.md section 5). -/
def Obligations.ConfigureReadsBack : Prop :=
  ∀ (strength : Strength) (s : State), Running s → s.job = none →
    ∃ t u, exec (.wrLocationConfig (configValue strength)) s = .next t ∧
      exec (.wrLocationConfig (configValue strength)) t = .next t ∧
      exec .rdLocationConfig t = .next u ∧
      getField u.readData 0 2 = codeOf strength ∧ getField u.readData 16 11 = 2047

/-- 40_bus_register_access.md R109: the whole word is MODE; nothing but the read port changes. -/
def Obligations.ReadPageCtrlReturnsMode : Prop :=
  ∀ s : State, DecodesRead 0x080 .rdPageCtrl ∧ RefusedUntilReset .rdPageCtrl s ∧
    (Running s → ∃ t, exec .rdPageCtrl s = .next t ∧ OnlyReadPort s t ∧ t.readData = s.pageMode)

/-- WR.PAGE_CTRL: MODE takes DATA, any value, and nothing else changes. That a non-zero mode is stored is decision
D20 (40_bus_register_access.md section 5). -/
def Obligations.PageCtrlWriteStoresMode : Prop :=
  ∀ (data : Word) (s : State),
    DecodesWrite 0x080 data (.wrPageCtrl data) ∧ RefusedUntilReset (.wrPageCtrl data) s ∧ FaultsOnJob (.wrPageCtrl data) s ∧
    (Running s → s.job = none → exec (.wrPageCtrl data) s = .next { s with pageMode := data })

/-! ## Syndrome fragments -/

/-- 40_bus_register_access.md R111: RD.SF0 to RD.SF5 return the fragment whole, RD.SF6 its DATA and VALID, which reads
1 while a job is present (in consistent states); nothing but the read port changes, also while a job is present. -/
def Obligations.ReadFragmentsReturnWords : Prop :=
  ∀ s : State,
    (DecodesRead 0x400 .rdSf0 ∧ DecodesRead 0x404 .rdSf1 ∧ DecodesRead 0x408 .rdSf2 ∧ DecodesRead 0x40C .rdSf3 ∧
      DecodesRead 0x410 .rdSf4 ∧ DecodesRead 0x414 .rdSf5 ∧ DecodesRead 0x418 .rdSf6) ∧
    (RefusedUntilReset .rdSf0 s ∧ RefusedUntilReset .rdSf1 s ∧ RefusedUntilReset .rdSf2 s ∧
      RefusedUntilReset .rdSf3 s ∧ RefusedUntilReset .rdSf4 s ∧ RefusedUntilReset .rdSf5 s ∧
      RefusedUntilReset .rdSf6 s) ∧
    (Running s →
      exec .rdSf0 s = .next { s with readData := s.frag[0] } ∧
      exec .rdSf1 s = .next { s with readData := s.frag[1] } ∧
      exec .rdSf2 s = .next { s with readData := s.frag[2] } ∧
      exec .rdSf3 s = .next { s with readData := s.frag[3] } ∧
      exec .rdSf4 s = .next { s with readData := s.frag[4] } ∧
      exec .rdSf5 s = .next { s with readData := s.frag[5] } ∧
      ∃ t, exec .rdSf6 s = .next t ∧ OnlyReadPort s t ∧
        getField t.readData 0 16 = s.frag6Data ∧ t.readData.getLsbD 16 = s.frag6Valid ∧
        (Consistent s → s.job ≠ none → t.readData.getLsbD 16 = true))

/-- 40_bus_register_access.md R112 to R117: fragment k takes all 32 bits and nothing else changes. -/
def Obligations.FragmentWritesStoreWords : Prop :=
  ∀ (data : Word) (s : State),
    (DecodesWrite 0x400 data (.wrSf0 data) ∧ DecodesWrite 0x404 data (.wrSf1 data) ∧
      DecodesWrite 0x408 data (.wrSf2 data) ∧ DecodesWrite 0x40C data (.wrSf3 data) ∧
      DecodesWrite 0x410 data (.wrSf4 data) ∧ DecodesWrite 0x414 data (.wrSf5 data)) ∧
    (∀ i ∈ [Instr.wrSf0 data, .wrSf1 data, .wrSf2 data, .wrSf3 data, .wrSf4 data, .wrSf5 data],
      RefusedUntilReset i s ∧ FaultsOnJob i s) ∧
    (Running s → s.job = none →
      exec (.wrSf0 data) s = .next { s with frag := s.frag.set 0 data } ∧
      exec (.wrSf1 data) s = .next { s with frag := s.frag.set 1 data } ∧
      exec (.wrSf2 data) s = .next { s with frag := s.frag.set 2 data } ∧
      exec (.wrSf3 data) s = .next { s with frag := s.frag.set 3 data } ∧
      exec (.wrSf4 data) s = .next { s with frag := s.frag.set 4 data } ∧
      exec (.wrSf5 data) s = .next { s with frag := s.frag.set 5 data })

/-- 40_bus_register_access.md R118: WR.SF6 stores DATA[15:0], clears VALID, starts nothing. -/
def Obligations.Fragment6WriteStoresWithoutTrigger : Prop :=
  ∀ (data : Word) (s : State),
    (data.getLsbD 16 = false → DecodesWrite 0x418 data (.wrSf6 data)) ∧
    RefusedUntilReset (.wrSf6 data) s ∧ FaultsOnJob (.wrSf6 data) s ∧
    (Running s → s.job = none → exec (.wrSf6 data) s =
      .next { s with frag6Data := getField data 0 16, frag6Valid := false })

/-- WR.SF6.TRIG: the refusals and faults in their order, and otherwise DATA[15:0] stored, VALID set and a job
created from LEVEL, SIZE and the fragments as they then stand, whatever VALID and DONE0 held; nothing else changes.
Rests on decisions D12, D13, D19, D20 and D30 (40_bus_register_access.md section 6). -/
def Obligations.TriggerStartsDecodeOfSampledOperands : Prop :=
  ∀ (data : Word) (s : State),
    (data.getLsbD 16 = true → DecodesWrite 0x418 data (.wrSf6Trig data)) ∧
    RefusedUntilReset (.wrSf6Trig data) s ∧ FaultsOnJob (.wrSf6Trig data) s ∧
    (Running s → s.job = none → strengthOf s.level = none →
      exec (.wrSf6Trig data) s = .fault .reservedLevel) ∧
    (Running s → s.job = none → strengthOf s.level ≠ none → s.pageMode ≠ 0 →
      exec (.wrSf6Trig data) s = .refused .pageMode) ∧
    (Running s → s.job = none → strengthOf s.level ≠ none → s.pageMode = 0 →
      exec (.wrSf6Trig data) s =
        .next { s with
          frag6Data := getField data 0 16
          frag6Valid := true
          job := some
            { level := s.level
              size := s.size
              syn := getField data 0 16 ++ s.frag[5] ++ s.frag[4] ++ s.frag[3] ++ s.frag[2] ++ s.frag[1] ++
                s.frag[0] } })

/-! ## Results -/

/-- RD.LOCATION_STATUS: bit 8 is CORRECTABLE and bits 4:0 NB_ERRORS when no job is present; a wholly free word while
one is (decision D17; 40_bus_register_access.md section 7). -/
def Obligations.ReadLocationStatusReturnsVerdict : Prop :=
  ∀ s : State, DecodesRead 0x800 .rdLocationStatus ∧ RefusedUntilReset .rdLocationStatus s ∧
    (Running s → ∃ t, exec .rdLocationStatus s = .next t ∧ OnlyReadPort s t ∧
      (s.job ≠ none → t.readData = Config.draw 32 s.draws) ∧
      (s.job = none → t.readData.getLsbD 8 = s.correctable ∧ getField t.readData 0 5 = s.nbErrors))

/-- RD.ERRLOC: bits 12:0 are slot i's POS when no job is present; a wholly free word while one is (decision D17;
40_bus_register_access.md section 8). -/
def Obligations.ReadErrorLocationReturnsSlot : Prop :=
  ∀ (i : BitVec 4) (s : State),
    DecodesRead (0x880 + 4 * i.setWidth 12) (.rdErrloc i) ∧ RefusedUntilReset (.rdErrloc i) s ∧
    (Running s → ∃ t, exec (.rdErrloc i) s = .next t ∧ OnlyReadPort s t ∧
      (s.job ≠ none → t.readData = Config.draw 32 s.draws) ∧
      (s.job = none → getField t.readData 0 13 = s.errLoc[i.toFin]))

/-- WR.SYSSTATUS, WR.LOCATION_STATUS and WR.ERRLOC stop: refused as read-only, after the reset state is checked
(decision D6; 40_bus_register_access.md R104, R123, R125; 60_exceptions.md R209). -/
def Obligations.ReadOnlyWritesAreRefused : Prop :=
  ∀ (i : BitVec 4) (data : Word) (s : State),
    (DecodesWrite 0x014 data (.wrSysstatus data) ∧ DecodesWrite 0x800 data (.wrLocationStatus data) ∧
      DecodesWrite (0x880 + 4 * i.setWidth 12) data (.wrErrloc i data)) ∧
    ∀ w ∈ [Instr.wrSysstatus data, .wrLocationStatus data, .wrErrloc i data],
      RefusedUntilReset w s ∧ (Running s → exec w s = .refused .readOnly)

/-! ## Admission and whole-machine rules over transactions -/

/-- The admission table by reset state: before the first reset and during a reset exactly the listed transactions
complete, every other is refused by name, whatever its operands. Rests on decisions D10 and D11
(40_bus_register_access.md section 9). -/
def Obligations.AdmissionFollowsResetState : Prop :=
  ∀ (i : Instr) (s : State),
    (s.poweredUnreset = true → s.resetPending = false → s.job = none →
      ((i = .rdSysconfig ∨ i = .rdSysstatus ∨ ∃ data, i = .wrSysconfigSrst data) → ∃ t, exec i s = .next t) ∧
      (i ≠ .rdSysconfig → i ≠ .rdSysstatus → (∀ data, i ≠ .wrSysconfigSrst data) →
        exec i s = .refused .beforeReset)) ∧
    (s.poweredUnreset = false → s.resetPending = true →
      (i = .rdSysstatus → ∃ t, exec i s = .next t) ∧
      (i ≠ .rdSysstatus → exec i s = .refused .duringReset))

/-- While a job is present, exactly the operand, configuration, trigger and soft-reset writes are faults; every read,
WR.IRQSTATUS and WR.SYSCONFIG complete and leave the job and its operand registers alone. Rests on decision D13
(40_bus_register_access.md section 9). -/
def Obligations.BusyEngineAdmitsOnlyHarmlessTransactions : Prop :=
  ∀ (i : Instr) (s : State) (j : Job), Running s → s.job = some j →
    (disturbsJob i = true → exec i s = .fault .overlappingUse) ∧
    (disturbsJob i = false → writesReadOnly i = false →
      ∃ t, exec i s = .next t ∧ t.job = some j ∧ t.level = s.level ∧ t.size = s.size ∧
        t.pageMode = s.pageMode ∧ t.frag = s.frag ∧ t.frag6Data = s.frag6Data ∧ t.frag6Valid = s.frag6Valid)

/-- A read completes on an engine past its resets and changes nothing but the read port (decision D7;
20_memory.md section 2). -/
def Obligations.ReadsHaveNoSideEffects : Prop :=
  ∀ (i : Instr) (s : State), IsRead i → Running s → ∃ t, exec i s = .next t ∧ OnlyReadPort s t

/-- Which flag a transaction can write: RESETDONE only the soft-reset write, DONE0 only WR.IRQSTATUS, VALID only
the fragment-6 writes, CORRECTABLE none (10_state.md section 6). -/
def Obligations.FlagsWrittenOnlyByNamedTransactions : Prop :=
  ∀ (i : Instr) (s t : State), exec i s = .next t →
    (t.resetDone ≠ s.resetDone → ∃ data, i = .wrSysconfigSrst data) ∧
    (t.done0 ≠ s.done0 → ∃ data, i = .wrIrqstatus data) ∧
    (t.frag6Valid ≠ s.frag6Valid → ∃ data, i = .wrSf6 data ∨ i = .wrSf6Trig data) ∧
    t.correctable = s.correctable

/-- The result registers are the engine's: no transaction changes the verdict, the count or a slot, nor anything of
the host software, the marks or the schedule (10_state.md sections 4 and 5, 41_engine_steps.md section 3). -/
def Obligations.TransactionsLeaveResultsAndSoftwareAlone : Prop :=
  ∀ (i : Instr) (s t : State), exec i s = .next t →
    t.correctable = s.correctable ∧ t.nbErrors = s.nbErrors ∧ t.errLoc = s.errLoc ∧ SoftwareUnchanged s t

/-- IDLEMODE takes part in nothing but RD.SYSCONFIG: every other transaction does the same to two states that differ
in it alone, but for IDLEMODE itself (decision D21; 60_exceptions.md section 5). -/
def Obligations.IdleModeInfluencesNothingElse : Prop :=
  ∀ (i : Instr) (s : State) (v : BitVec 2), i ≠ .rdSysconfig →
    (∀ t, exec i s = .next t →
      ∃ u, exec i { s with idleMode := v } = .next u ∧ u = { t with idleMode := u.idleMode }) ∧
    (∀ r, exec i s = .fault r → exec i { s with idleMode := v } = .fault r) ∧
    (∀ r, exec i s = .refused r → exec i { s with idleMode := v } = .refused r)

/-! ## The engine's steps -/

/-- When it is the reset agent's turn and a reset is pending, the step completes the reset: RESETDONE 1, DONE0 0, every
fragment 0, VALID 0, no job, no reset pending; host software, marks and the first-reset state as before. The zeros are
decision D9 (41_engine_steps.md section 1). -/
def Obligations.ResetCompletionInitialises : Prop :=
  ∀ (s : State) (ts : List Agent), Unmarked s → s.turns = .engineReset :: ts → s.resetPending = true →
    ∃ t, step s = .next t ∧ t.resetDone = true ∧ t.resetPending = false ∧ t.done0 = false ∧
      t.frag = Vector.replicate 6 0 ∧ t.frag6Data = 0 ∧ t.frag6Valid = false ∧ t.job = none ∧
      t.poweredUnreset = s.poweredUnreset ∧ Unmarked t ∧ t.instances = s.instances ∧ t.registry = s.registry ∧
      t.callers = s.callers ∧ t.turns = ts ∧ t.readData = s.readData

/-- When it is the decode agent's turn and a job is present, the step publishes the verdict of the location function on
the job's operands, ends the job and sets DONE0, all at once; configuration, operands (but VALID), software and
marks stay. Rests on decisions D14, D15, D16 (41_engine_steps.md section 3). -/
def Obligations.DecodeCompletionPublishesVerdict : Prop :=
  ∀ (s : State) (ts : List Agent) (j : Job), Unmarked s → s.turns = .engineDecode :: ts → s.job = some j →
    ∃ t, step s = .next t ∧ t.done0 = true ∧ t.job = none ∧
      (match locate j.level j.size j.syn with
        | .correctable locs =>
          t.correctable = true ∧ t.nbErrors.toNat = locs.length ∧
          ∀ i : Fin 16, ∀ h : i.val < locs.length, t.errLoc[i] = locs[i.val]
        | .uncorrectable => t.correctable = false) ∧
      t.idleMode = s.idleMode ∧ t.resetDone = s.resetDone ∧ t.level = s.level ∧ t.size = s.size ∧
      t.pageMode = s.pageMode ∧ t.frag = s.frag ∧ t.frag6Data = s.frag6Data ∧
      t.poweredUnreset = s.poweredUnreset ∧ t.resetPending = s.resetPending ∧ Unmarked t ∧
      t.instances = s.instances ∧ t.registry = s.registry ∧ t.callers = s.callers ∧ t.turns = ts ∧
      t.readData = s.readData

/-- An engine agent whose step is not enabled does nothing with its turn (41_engine_steps.md section 3, R144; that the turn is
used up is the model's choice, log 21). -/
def Obligations.DisabledEngineAgentsDoNothing : Prop :=
  ∀ (s : State) (ts : List Agent), Unmarked s →
    (s.turns = .engineReset :: ts → s.resetPending = false → step s = .next { s with turns := ts }) ∧
    (s.turns = .engineDecode :: ts → s.job = none → step s = .next { s with turns := ts })

/-- A reset that is pending, and a job that is present, are completed no later than at the first turn of their engine agent,
whatever the callers do before it, unless a mark is set (41_engine_steps.md sections 1 and 3). Whose turn comes when is
the model's schedule (log 7); that its engine agents have turns ahead of them is the weak fairness the spec assumes. -/
def Obligations.EngineCompletesAtItsTurn : Prop :=
  ∀ (s : State) (n : Nat), Unmarked s → Consistent s →
    (s.resetPending = true → turnAt s n = .engineReset →
      ∃ m t, m ≤ n + 1 ∧ Host.Core.run core m s = .next t ∧
        (Unmarked t → t.resetPending = false ∧ t.resetDone = true)) ∧
    (s.job ≠ none → turnAt s n = .engineDecode →
      ∃ m t, m ≤ n + 1 ∧ Host.Core.run core m s = .next t ∧
        (Unmarked t → t.job = none ∧ t.done0 = true))

/-- A completed decode reports at most as many errors as the strength corrects, and no more than the slots hold
(property P1, derived by the spec for BCH4 and BCH16; 41_engine_steps.md section 4; log 12). -/
def Obligations.ReportedCountWithinStrength : Prop :=
  ∀ (s : State) (j : Job) (strength : Strength), s.job = some j → strengthOf j.level = some strength →
    (engineDecodeStep s).correctable = true →
      (engineDecodeStep s).nbErrors.toNat ≤ correctableErrors strength ∧
      (engineDecodeStep s).nbErrors.toNat ≤ 16

/-- Two jobs with equal operands give the same verdict, and when correctable the same count and the same locations,
whatever else the two machines hold (decision D18; 41_engine_steps.md section 4). -/
def Obligations.EqualOperandsGiveEqualResults : Prop :=
  ∀ (s u : State) (j : Job), s.job = some j → u.job = some j →
    (engineDecodeStep s).correctable = (engineDecodeStep u).correctable ∧
    ((engineDecodeStep s).correctable = true →
      (engineDecodeStep s).nbErrors = (engineDecodeStep u).nbErrors ∧
      ∀ i : Fin 16, i.val < (engineDecodeStep s).nbErrors.toNat →
        (engineDecodeStep s).errLoc[i] = (engineDecodeStep u).errLoc[i])

/-- A completion after an acknowledge sets DONE0 again and is not lost; an acknowledge after it clears it
(60_exceptions.md section 3, case a). -/
def Obligations.AcknowledgeAndCompletionInEitherOrder : Prop :=
  ∀ (s : State) (j : Job), Running s → s.job = some j →
    (∃ t, exec (.wrIrqstatus acknowledgeValue) s = .next t ∧ t.done0 = false ∧
      (engineDecodeStep t).done0 = true) ∧
    (∃ t, exec (.wrIrqstatus acknowledgeValue) (engineDecodeStep s) = .next t ∧ t.done0 = false ∧ t.job = none)

/-! ## The step -/

/-- When it is caller k's turn, it runs no operation and its next command is a bare 32-bit transaction that decodes to i,
the step is exec of i at the state in which the turn is used up; what the step adds is the caller's book-keeping (its
command taken, the value or the done write given back, its phase), and the sticky mark where exec stops
(logs 5, 8, 10). -/
def Obligations.StepRunsTheDecodedTransaction : Prop :=
  ∀ (s : State) (k : Nat) (ts : List Agent) (c : Caller) (r : BusRequest) (cs : List Command) (i : Instr),
    Unmarked s → s.turns = .caller k :: ts → s.callers[k]? = some c → c.code = [] →
    c.commands = .transaction r :: cs → decodeRequest r = .ok i →
    (∀ t, exec i { s with turns := ts } = .next t →
      step s = .next (t.setCaller k
        { c with
          commands := cs
          phase := phaseAfter i s t.readData c.phase
          returned := (if r.bits.isWrite = true then .written else .value t.readData) :: c.returned })) ∧
    (∀ f, exec i { s with turns := ts } = .fault f → step s = .next (State.markFault { s with turns := ts } f)) ∧
    (∀ f, exec i { s with turns := ts } = .refused f → step s = .next { s with turns := ts, refused := some f })

/-- A request that is refused at the boundary sets the refused mark and changes nothing else (log 5;
60_exceptions.md section 3, R209). -/
def Obligations.BoundaryRefusalSetsTheMark : Prop :=
  ∀ (s : State) (k : Nat) (ts : List Agent) (c : Caller) (r : BusRequest) (cs : List Command) (e : DecodeError),
    Unmarked s → s.turns = .caller k :: ts → s.callers[k]? = some c → c.code = [] →
    c.commands = .transaction r :: cs → decodeRequest r = .error e →
    step s = .next { s with turns := ts, refused := some (refusalOf e) }

/-- A word put by `withFetchWord` on an unmarked machine is what the next step runs (log 9). -/
def Obligations.FetchedWordIsRunNext : Prop :=
  ∀ (s : State) (nbits w : Nat) (i : Instr), Unmarked s → decodeTableWord nbits w = some i →
    ∀ t, exec i { (s.withFetchWord nbits w) with turns := s.turns } = .next t →
      ∃ u, step (s.withFetchWord nbits w) = .next u ∧ u = { t with callers := u.callers }

/-- A marked machine stops with the reason of its mark, the fault's before the refusal's: it supports no claim about
later behaviour (10_state.md section 8, R45; that it stops, and in which order, is the model's choice, log 5). -/
def Obligations.MarkedMachineStops : Prop :=
  ∀ s : State,
    (∀ r, s.fault = some r → step s = .fault r) ∧
    (∀ r, s.fault = none → s.refused = some r → step s = .refused r)

/-- An unmarked machine always has a next state. The spec schedules enabled agents only, so this is the model's choice: an
agent with nothing to do uses its turn up (log 21), a stop becomes a mark (log 5), and there is always a next turn
(log 7). -/
def Obligations.UnmarkedMachineSteps : Prop :=
  ∀ s : State, Unmarked s → ∃ t, step s = .next t

/-! ## Invariants -/

/-- Every step of a machine keeps the engine consistent unless it sets a mark (10_state.md section 2, derived
there; 40_bus_register_access.md sections 6 and 9). -/
def Obligations.StepKeepsEngineConsistent : Prop :=
  ∀ s t : State, Consistent s → step s = .next t → Unmarked t → Consistent t

/-- The machine after a reset and the machine at power-on are consistent. -/
def Obligations.ResetIsConsistent : Prop :=
  Consistent State.reset ∧ Consistent State.powerOn

/-- Until it completes a job keeps its sampled operands, and so do the registers they came from: a step without a mark
either leaves job, LEVEL, SIZE, MODE and all fragments as they are, or is the decode completion. Rests on decision
D13 (20_memory.md section 5, 41_engine_steps.md section 2). -/
def Obligations.JobOperandsAreStableUntilCompletion : Prop :=
  ∀ (s t : State) (j : Job), Consistent s → s.job = some j → step s = .next t → Unmarked t →
    (t.job = some j ∨ (turnOf s = .engineDecode ∧ t.job = none ∧ t.done0 = true)) ∧
    t.level = s.level ∧ t.size = s.size ∧ t.pageMode = s.pageMode ∧ t.frag = s.frag ∧ t.frag6Data = s.frag6Data

/-- Once the first soft reset is started the machine never goes back before it, marked or not (decision D10;
10_state.md section 8). -/
def Obligations.FirstResetIsNeverUndone : Prop :=
  ∀ s t : State, s.poweredUnreset = false → step s = .next t → t.poweredUnreset = false

/-- The registry of 43_registry_operations.md starts empty, and a step removes and reorders nothing in it, nor in the list
of instances (10_state.md section 8: "never destroyed"): what they held stands in front, in order. -/
def Obligations.RegistryIsAppendOnly : Prop :=
  State.reset.registry = [] ∧ State.powerOn.registry = [] ∧
  ∀ s t : State, step s = .next t →
    s.registry <+: t.registry ∧ s.instances.map Instance.base <+: t.instances.map Instance.base

/-- Every handle in the registry is an instance's: at reset, at power-on, and after every step from a state where it is
so (10_state.md section 8; the handles are the model's, log 15). -/
def Obligations.RegistryNamesInstances : Prop :=
  HandlesExist State.reset ∧ HandlesExist State.powerOn ∧
  ∀ s t : State, HandlesExist s → step s = .next t → HandlesExist t

/-- A caller's turn changes no other caller's software state (10_state.md section 1). -/
def Obligations.CallersDoNotTouchEachOther : Prop :=
  ∀ (s t : State) (k j : Nat), turnOf s = .caller k → step s = .next t → j ≠ k →
    t.callers[j]? = s.callers[j]?

/-! ## Host software -/

/-- 30_encoding.md R80: `rotate` reverses the thirteen bytes and is its own inverse. -/
def Obligations.RotateReversesBytes : Prop :=
  ∀ src : Bch8Payload,
    (rotate src.toList).length = 13 ∧
    (∀ i : Fin 13, (rotate src.toList)[12 - i.val]? = some src[i]) ∧
    rotate (rotate src.toList) = src.toList

/-- `load_syndrome` fills its buffer with the reversed payload and writes its four little-endian words into fragments 0
to 3; the words of a 13-byte payload, byte by byte, most significant byte first (42_protocol_operations.md section 2,
20_memory.md section 1). Which turns of software there are beside the four writes is the model's choice (logs 8, 14). -/
def Obligations.PayloadBytesInFragments : Prop :=
  ∀ (src : Bch8Payload) (handle k : Nat) (c : Caller) (s : State),
    linesOf (.loadSyndrome handle src.toList) = [.checkPayload handle src.toList, .fillBuffer src.toList,
      .writeFragment 0, .writeFragment 1, .writeFragment 2, .writeFragment 3, .returnCompleted] ∧
    runLine k (.fillBuffer src.toList) c s = s.setCaller k { c with synBuffer := padded (rotate src.toList) } ∧
    transactionOf c (.writeFragment 0) = some (.wrSf0 (bufferWord c.synBuffer 0)) ∧
    transactionOf c (.writeFragment 1) = some (.wrSf1 (bufferWord c.synBuffer 1)) ∧
    transactionOf c (.writeFragment 2) = some (.wrSf2 (bufferWord c.synBuffer 2)) ∧
    transactionOf c (.writeFragment 3) = some (.wrSf3 (bufferWord c.synBuffer 3)) ∧
    bufferWord (padded (rotate src.toList)) 0 = src[9] ++ src[10] ++ src[11] ++ src[12] ∧
    bufferWord (padded (rotate src.toList)) 1 = src[5] ++ src[6] ++ src[7] ++ src[8] ∧
    bufferWord (padded (rotate src.toList)) 2 = src[1] ++ src[2] ++ src[3] ++ src[4] ∧
    bufferWord (padded (rotate src.toList)) 3 = 0#24 ++ src[0] ∧
    ∀ (p : SyndromeBuffer) (k : Fin 4),
      bufferWord p k =
        p[4 * k.val + 3] ++ p[4 * k.val + 2] ++ p[4 * k.val + 1] ++ p[4 * k.val]

/-- The race of 70_reset_and_hazards.md R243 on fragment 6: a write by another caller between the read and the
write-back of `start` is undone, and the job decodes the old data. -/
def Obligations.StartRestoresOldFragment6 : Prop :=
  ∀ (s : State) (d : Word), Running s → s.job = none → strengthOf s.level ≠ none → s.pageMode = 0 →
    ∃ a b c, exec .rdSf6 s = .next a ∧ exec (.wrSf6 d) a = .next b ∧
      exec (.wrSf6Trig (triggerValue a.readData)) b = .next c ∧
      b.frag6Data = getField d 0 16 ∧ c.frag6Data = s.frag6Data ∧
      c.job = some { level := s.level, size := s.size, syn := syndromeOf s.frag6Data s.frag }

/-- The race of 70_reset_and_hazards.md R241 a: a configuration written by another caller before the trigger decides
the strength of the job, without a fault. -/
def Obligations.LastConfigurationDecidesStrength : Prop :=
  ∀ (s : State) (a b : Strength) (d : Word), Running s → s.job = none → s.pageMode = 0 →
    ∃ t u v, exec (.wrLocationConfig (configValue a)) s = .next t ∧
      exec (.wrLocationConfig (configValue b)) t = .next u ∧
      exec (.wrSf6Trig d) u = .next v ∧ v.job.map Job.level = some (codeOf b) ∧ v.fault = s.fault

/-- `request` on an empty registry returns DeviceNotFound without a transaction (60_exceptions.md section 1); otherwise
the first instance takes the strength, the two writes of `configure` follow, and its handle is returned
(43_registry_operations.md). -/
def Obligations.RequestTakesTheFirstInstance : Prop :=
  ∀ (s : State) (k : Nat) (ts : List Agent) (c : Caller) (level : Strength) (rest : List Line),
    linesOf (.request level) = [.lookup level] ∧
    transactionOf c (.lookup level) = none ∧
    transactionOf c (.writeConfig level) = some (.wrLocationConfig (configValue level)) ∧
    transactionOf c .writeContinuous = some (.wrPageCtrl 0) ∧
    (∀ handle, runLine k (.returnHandle handle) c s =
      s.setCaller k { c with returned := .handle handle :: c.returned }) ∧
    (Unmarked s → s.turns = .caller k :: ts → s.callers[k]? = some c → c.code = .lookup level :: rest →
      (s.registry = [] → step s = .next { s with
        turns := ts
        callers := s.callers.set k { c with code := [], returned := .errDeviceNotFound :: c.returned } }) ∧
      (∀ handle handles inst, s.registry = handle :: handles → s.instances[handle]? = some inst →
        step s = .next { s with
          turns := ts
          instances := s.instances.set handle { inst with level := level }
          callers := s.callers.set k
            { c with code := .writeConfig level :: .writeContinuous :: .returnHandle handle :: rest } }))

/-- A whole `request` on an idle engine with a registered instance: the first instance and the engine's configuration
take the strength, whatever they held; nothing of the results, the operands or the registry changes
(43_registry_operations.md). The five turns are the model's (log 8). -/
def Obligations.RequestConfiguresTheEngine : Prop :=
  ∀ (s : State) (k : Nat) (ts : List Agent) (c : Caller) (level : Strength) (cs : List Command)
    (handle : Nat) (handles : List Nat) (inst : Instance),
    Unmarked s → Running s → s.job = none → s.registry = handle :: handles → s.instances[handle]? = some inst →
    s.callers[k]? = some c → c.code = [] → c.commands = .operation (.request level) :: cs →
    s.turns = List.replicate 5 (.caller k) ++ ts →
    Host.Core.run core 5 s = .next { s with
      turns := ts
      level := codeOf level
      size := 2047
      pageMode := 0
      instances := s.instances.set handle { inst with level := level }
      callers := s.callers.set k
        { c with phase := .configured, commands := cs, returned := .handle handle :: c.returned } }

/-- `configure` stores the strength in its instance, refused where there is none, then writes it to the engine
(42_protocol_operations.md section 2), and the payload operation after it is checked against that strength
(70_reset_and_hazards.md section 3): open at a strength without a supplied length, let through at BCH8. That the
instance takes the strength is deduced (log 27); the turns are the model's (log 8). -/
def Obligations.ConfigureDecidesThePayloadCheck : Prop :=
  ∀ (s : State) (k handle : Nat) (ts : List Agent) (c : Caller) (level : Strength) (src : Bch8Payload)
    (bound : Option Nat),
    linesOf (.configure handle level) =
      [.storeLevel handle level, .writeConfig level, .writeContinuous, .returnCompleted] ∧
    (s.instances[handle]? = none → runLine k (.storeLevel handle level) c s = { s with refused := some .noSuchInstance }) ∧
    ∀ inst, Unmarked s → Running s → s.job = none → s.instances[handle]? = some inst → s.callers[k]? = some c →
      c.code = [] →
      c.commands = [.operation (.configure handle level), .operation (.decode handle src.toList bound)] →
      s.turns = List.replicate 7 (.caller k) ++ ts →
      ∃ t, Host.Core.run core 7 s = .next t ∧
        t.level = codeOf level ∧ t.size = 2047 ∧ t.pageMode = 0 ∧ t.frag = s.frag ∧ t.job = none ∧
        t.instances = s.instances.set handle { inst with level := level } ∧
        (Config.payloadLen level = none → t.refused = some .payloadLengthOpen) ∧
        (level = .bch8 → Unmarked t ∧ ∃ d, t.callers[k]? = some d ∧ d.phase = .configured ∧
          d.returned = .completed :: c.returned ∧ .checkPayload handle src.toList :: d.code =
            linesOf (.decode handle src.toList bound))

/-- `load_syndrome` and `decode` begin with a check of the instance's strength, before any transaction: a length that is
not supplied is refused (decision D27; 42_protocol_operations.md section 2); BCH8 has thirteen bytes. The refusal of a
supplied length over sixteen, of a payload of another length and of an instance that does not exist are the model's
(logs 14, 16). -/
def Obligations.PayloadLengthIsOpenButForBch8 : Prop :=
  ∀ (s : State) (k : Nat) (ts : List Agent) (c : Caller) (handle : Nat) (src : Payload) (bound : Option Nat)
    (rest : List Line),
    (linesOf (.loadSyndrome handle src)).head? = some (.checkPayload handle src) ∧
    (linesOf (.decode handle src bound)).head? = some (.checkPayload handle src) ∧
    transactionOf c (.checkPayload handle src) = none ∧
    Config.payloadLen .bch8 = some 13 ∧
    (Unmarked s → s.turns = .caller k :: ts → s.callers[k]? = some c → c.code = .checkPayload handle src :: rest →
      step s = .next (
        match s.instances[handle]? with
        | none => { s with turns := ts, refused := some .noSuchInstance }
        | some inst =>
          match Config.payloadLen inst.level with
          | none => { s with turns := ts, refused := some .payloadLengthOpen }
          | some n =>
            if 16 < n then { s with turns := ts, refused := some .payloadTooLong }
            else if src.length = n then { s with turns := ts, callers := s.callers.set k { c with code := rest } }
            else { s with turns := ts, refused := some .payloadLengthMismatch }))

/-- The bounded waits (decision D29; 42_protocol_operations.md section 2). On an engine whose bit stays 0, each poll uses
up one of the `n` polls of the bound, and the turn after the `n`-th ends the operation with Timeout; nothing but the
caller, the read port and the count of free values changes: the job, DONE0, a pending reset and the phase stay. A poll
that sees a 1 goes on to the next line. The turn that returns Timeout, and what a caller's whole operation makes of it,
are the model's (logs 20, 28). -/
def Obligations.TimeoutLeavesTheEngineAlone : Prop :=
  ∀ (s : State) (k n : Nat) (ts : List Agent) (c : Caller) (poll : Option Nat → Line) (rest : List Line),
    awaitLines (some n) = [.pollDone (some n), .acknowledge] ∧
    resetLines (some n) =
      [.readSysconfig, .writeSoftReset, .pollResetDone (some n), .readSysconfig, .writeSmartIdle] ∧
    transactionOf c (.pollDone (some (n + 1))) = some .rdIrqstatus ∧
    transactionOf c (.pollResetDone (some (n + 1))) = some .rdSysstatus ∧
    (Unmarked s → s.turns = .caller k :: ts → s.callers[k]? = some c →
      poll = .pollDone ∨ poll = .pollResetDone → c.code = poll (some 0) :: rest →
      step s = .next { s with
        turns := ts
        callers := s.callers.set k { c with code := [], returned := .errTimeout :: c.returned } }) ∧
    (Unmarked s → s.poweredUnreset = false → s.turns = .caller k :: ts → s.callers[k]? = some c →
      (poll = .pollDone ∧ s.resetPending = false ∧ s.done0 = true) ∨ (poll = .pollResetDone ∧ s.resetDone = true) →
      c.code = poll (some (n + 1)) :: rest →
      ∃ w, step s = .next { s with
        turns := ts, readData := w, draws := s.draws + 1, callers := s.callers.set k { c with code := rest } }) ∧
    (Unmarked s → s.poweredUnreset = false → s.turns = List.replicate (n + 1) (.caller k) ++ ts →
      s.callers[k]? = some c →
      (poll = .pollDone ∧ s.resetPending = false ∧ s.done0 = false) ∨ (poll = .pollResetDone ∧ s.resetDone = false) →
      c.code = poll (some n) :: rest →
      (∀ m ≤ n, ∃ w, Host.Core.run core m s = .next { s with
        turns := List.replicate (n + 1 - m) (.caller k) ++ ts
        readData := w
        draws := s.draws + m
        callers := s.callers.set k { c with code := poll (some (n - m)) :: rest } }) ∧
      ∃ w, Host.Core.run core (n + 1) s = .next { s with
        turns := ts
        readData := w
        draws := s.draws + n
        callers := s.callers.set k { c with code := [], returned := .errTimeout :: c.returned } })

/-- `classify` reads LOCATION_STATUS; on a count over sixteen with CORRECTABLE set it raises the fault and reads no
slot; on a cleared CORRECTABLE it reads no slot either and returns Uncorrectable; else it reads slots 0 to n-1, each
location appended in order, and returns them (42_protocol_operations.md section 2; 60_exceptions.md section 3, derived
there). -/
def Obligations.ClassifyReadsCountedSlots : Prop :=
  ∀ (w : Word) (c : Caller) (k : Nat) (s : State),
    linesOf .classify = [.readStatus] ∧
    transactionOf c .readStatus = some .rdLocationStatus ∧
    (w.getLsbD 8 = true → 16 < (getField w 0 5).toNat → afterLine .readStatus w c = .error .countOutOfRange) ∧
    (w.getLsbD 8 = true → (getField w 0 5).toNat ≤ 16 → ∃ d, afterLine .readStatus w c = .ok d ∧
      d.locs = [] ∧
      d.code = (List.range (getField w 0 5).toNat).map (fun i => Line.readSlot (BitVec.ofNat 4 i)) ++
        .returnCorrectable :: c.code) ∧
    (w.getLsbD 8 = false → afterLine .readStatus w c = .ok { c with code := .returnUncorrectable :: c.code }) ∧
    (∀ i, transactionOf c (.readSlot i) = some (.rdErrloc i) ∧
      afterLine (.readSlot i) w c = .ok { c with locs := c.locs ++ [getField w 0 13] }) ∧
    (∃ d, runLine k .returnCorrectable c s = s.setCaller k d ∧ d.phase = .correctable ∧
      d.returned = .correctable c.locs.length c.locs :: c.returned) ∧
    (∃ d, runLine k .returnUncorrectable c s = s.setCaller k d ∧ d.phase = .uncorrectable ∧
      d.returned = .errUncorrectable :: c.returned)

/-- Bring-up (70_reset_and_hazards.md R235 step 1): `register` of an instance at power-on, with any number of failed polls
before the reset completes, ends with the state the spec lists there. The zeros and RESETDONE during the reset are
decisions D8, D9; the turns taken by software are the model's (log 8). -/
def Obligations.RegisterBringsTheEngineUp : Prop :=
  ∀ (inst : Instance) (p : Nat) (c : Caller), c.code = [] → c.commands = [.operation (.register 0 none)] →
    ∃ t, Host.Core.run core (12 + p)
        { State.powerOn with
          instances := [inst]
          callers := [c]
          turns := List.replicate (4 + p) (.caller 0) ++ .engineReset :: List.replicate 7 (.caller 0) } = .next t ∧
      t.resetDone = true ∧ t.idleMode = 0b10#2 ∧ t.done0 = false ∧ t.frag = Vector.replicate 6 0 ∧
      t.frag6Data = 0 ∧ t.frag6Valid = false ∧ t.level = codeOf inst.level ∧ t.size = 0x7FF ∧ t.pageMode = 0 ∧
      t.job = none ∧ t.resetPending = false ∧ t.poweredUnreset = false ∧ Unmarked t ∧ t.registry = [0] ∧
      t.instances = [inst] ∧
      ∃ d, t.callers = [d] ∧ d.phase = .configured ∧ d.code = [] ∧ d.commands = [] ∧
        d.returned = .completed :: c.returned

/-- The functional summary of `decode` (42_protocol_operations.md R170, derived there): one caller, no mark, the engine configured
for BCH8, DONE0 = 0, fragments 4 to 6 still 0; with p failed polls before the completion, `decode(src)` returns
exactly what the location function says of the payload's syndrome, acknowledges, and leaves the configuration. The
turns taken by software are the model's (log 8). -/
def Obligations.DecodeReturnsTheLocatedErrors : Prop :=
  ∀ (s : State) (k h p : Nat) (src : Bch8Payload) (c : Caller) (inst : Instance),
    Unmarked s → Running s → s.job = none → s.done0 = false →
    s.level = codeOf .bch8 → s.size = 2047 → s.pageMode = 0 →
    s.frag[4] = 0 → s.frag[5] = 0 → s.frag6Data = 0 →
    s.instances[h]? = some inst → inst.level = .bch8 →
    s.callers[k]? = some c → c.code = [] → c.commands = [.operation (.decode h src.toList none)] →
    s.turns = List.replicate (9 + p) (.caller k) ++ .engineDecode :: List.replicate 13 (.caller k) →
    ∃ t, Host.Core.run core (23 + p) s = .next t ∧ Unmarked t ∧ t.done0 = false ∧ t.job = none ∧
      t.level = s.level ∧ t.size = s.size ∧ t.pageMode = 0 ∧ t.frag = payloadFragments src ∧ t.frag6Data = 0 ∧
      ∃ d, t.callers[k]? = some d ∧ d.code = [] ∧ d.commands = [] ∧ d.phase = .configured ∧
        d.returned = returnOf (locate (codeOf .bch8) 2047 (payloadSyndrome src)) :: c.returned
end

