-- ==== Sys2Proof/Laws/Bits.lean ====
section
/-! SUPPORT. The laws of `setField` and `getField`: a field written is the field read, and no other bit changes. -/

namespace Sys2Proof.Machine

open Sys2Proof

theorem getLsbD_fieldMask (lo n i : Nat) :
    (fieldMask lo n).getLsbD i = (decide (i < 32) && decide (lo ≤ i) && decide (i - lo < n)) := by
  unfold fieldMask
  rw [BitVec.getLsbD_shiftLeft, BitVec.getLsbD_setWidth, BitVec.getLsbD_allOnes]
  by_cases h1 : i < 32
  · have h3 : i - lo < 32 := by omega
    by_cases h2 : i < lo
    · have h4 : ¬ lo ≤ i := by omega
      simp [h1, h2, h4]
    · have h4 : lo ≤ i := by omega
      simp [h1, h2, h3, h4]
  · simp [h1]

/-- Bit by bit: inside the field the new bits, outside it the old. -/
theorem getLsbD_setField (w : Word) (lo : Nat) {n : Nat} (v : BitVec n) (i : Nat) (h : i < 32) :
    (setField w lo v).getLsbD i = if lo ≤ i ∧ i < lo + n then v.getLsbD (i - lo) else w.getLsbD i := by
  unfold setField
  rw [BitVec.getLsbD_or, BitVec.getLsbD_and, BitVec.getLsbD_not, getLsbD_fieldMask,
    BitVec.getLsbD_shiftLeft, BitVec.getLsbD_setWidth]
  by_cases h1 : lo ≤ i
  · by_cases h2 : i < lo + n
    · have h3 : i - lo < n := by omega
      have h4 : ¬ i < lo := by omega
      have h5 : i - lo < 32 := by omega
      simp [h, h1, h2, h3, h4, h5]
    · have h3 : ¬ i - lo < n := by omega
      have h4 : ¬ i < lo := by omega
      have h5 : v.getLsbD (i - lo) = false := BitVec.getLsbD_of_ge _ _ (by omega)
      simp [h, h1, h2, h3, h4, h5]
  · have h4 : i < lo := by omega
    simp [h, h1, h4]

/-- A field read back is the field written. -/
theorem getField_setField (w : Word) (lo : Nat) {n : Nat} (v : BitVec n) (h : lo + n ≤ 32) :
    getField (setField w lo v) lo n = v := by
  apply BitVec.eq_of_getLsbD_eq
  intro i hi
  unfold getField
  rw [BitVec.getLsbD_extractLsb', getLsbD_setField _ _ _ _ (by omega)]
  simp [hi]

/-- A field is not changed by writing another. -/
theorem getField_setField_disjoint (w : Word) (lo lo' m : Nat) {n : Nat} (v : BitVec n) (h : lo' + m ≤ 32)
    (hd : lo' + m ≤ lo ∨ lo + n ≤ lo') :
    getField (setField w lo v) lo' m = getField w lo' m := by
  apply BitVec.eq_of_getLsbD_eq
  intro i hi
  unfold getField
  rw [BitVec.getLsbD_extractLsb', BitVec.getLsbD_extractLsb', getLsbD_setField _ _ _ _ (by omega)]
  have : ¬ (lo ≤ lo' + i ∧ lo' + i < lo + n) := by omega
  simp [this]

/-- A one-bit field read back as a bit. -/
theorem getLsbD_setField_ofBool (w : Word) (lo : Nat) (b : Bool) (h : lo < 32) :
    (setField w lo (BitVec.ofBool b)).getLsbD lo = b := by
  rw [getLsbD_setField _ _ _ _ h]
  simp

/-- A bit outside a field is not changed by writing the field. -/
theorem getLsbD_setField_outside (w : Word) (lo i : Nat) {n : Nat} (v : BitVec n) (h : i < 32)
    (hd : i < lo ∨ lo + n ≤ i) : (setField w lo v).getLsbD i = w.getLsbD i := by
  rw [getLsbD_setField _ _ _ _ h]
  have : ¬ (lo ≤ i ∧ i < lo + n) := by omega
  simp [this]

/-- A word of four bytes appended is the four bytes appended one by one. -/
theorem append_word_bytes {n : Nat} (x : BitVec n) (a b c d : Byte) :
    (x ++ (a ++ b ++ c ++ d : BitVec 32) : BitVec (n + 32)) =
      (x ++ a ++ b ++ c ++ d : BitVec (n + 8 + 8 + 8 + 8)) := by
  apply BitVec.eq_of_toNat_eq
  have h1 (x : BitVec 24) (y : Byte) : (x ++ y : BitVec 32).toNat = x.toNat <<< 8 ||| y.toNat :=
    BitVec.toNat_append x y
  have h2 (x : BitVec 16) (y : Byte) : (x ++ y : BitVec 24).toNat = x.toNat <<< 8 ||| y.toNat :=
    BitVec.toNat_append x y
  have h3 (x y : Byte) : (x ++ y : BitVec 16).toNat = x.toNat <<< 8 ||| y.toNat := BitVec.toNat_append x y
  simp only [BitVec.toNat_append, h1, h2, h3, Nat.shiftLeft_or_distrib, ← Nat.shiftLeft_add, Nat.reduceAdd,
    Nat.or_assoc]

end Sys2Proof.Machine
end

