-- ==== Sys2Proof/Laws/State.lean ====
section
/-! SUPPORT. One lemma per field and update of State, so that no later proof unfolds a record update. -/

namespace Sys2Proof.Machine

open Sys2Proof

/-! ### answer -/

@[simp] theorem State.answer_idleMode (s : State) (w : Word) : (s.answer w).idleMode = s.idleMode := rfl
@[simp] theorem State.answer_resetDone (s : State) (w : Word) : (s.answer w).resetDone = s.resetDone := rfl
@[simp] theorem State.answer_done0 (s : State) (w : Word) : (s.answer w).done0 = s.done0 := rfl
@[simp] theorem State.answer_level (s : State) (w : Word) : (s.answer w).level = s.level := rfl
@[simp] theorem State.answer_size (s : State) (w : Word) : (s.answer w).size = s.size := rfl
@[simp] theorem State.answer_pageMode (s : State) (w : Word) : (s.answer w).pageMode = s.pageMode := rfl
@[simp] theorem State.answer_frag (s : State) (w : Word) : (s.answer w).frag = s.frag := rfl
@[simp] theorem State.answer_frag6Data (s : State) (w : Word) : (s.answer w).frag6Data = s.frag6Data := rfl
@[simp] theorem State.answer_frag6Valid (s : State) (w : Word) : (s.answer w).frag6Valid = s.frag6Valid := rfl
@[simp] theorem State.answer_correctable (s : State) (w : Word) : (s.answer w).correctable = s.correctable := rfl
@[simp] theorem State.answer_nbErrors (s : State) (w : Word) : (s.answer w).nbErrors = s.nbErrors := rfl
@[simp] theorem State.answer_errLoc (s : State) (w : Word) : (s.answer w).errLoc = s.errLoc := rfl
@[simp] theorem State.answer_poweredUnreset (s : State) (w : Word) : (s.answer w).poweredUnreset = s.poweredUnreset := rfl
@[simp] theorem State.answer_resetPending (s : State) (w : Word) : (s.answer w).resetPending = s.resetPending := rfl
@[simp] theorem State.answer_job (s : State) (w : Word) : (s.answer w).job = s.job := rfl
@[simp] theorem State.answer_fault (s : State) (w : Word) : (s.answer w).fault = s.fault := rfl
@[simp] theorem State.answer_refused (s : State) (w : Word) : (s.answer w).refused = s.refused := rfl
@[simp] theorem State.answer_instances (s : State) (w : Word) : (s.answer w).instances = s.instances := rfl
@[simp] theorem State.answer_registry (s : State) (w : Word) : (s.answer w).registry = s.registry := rfl
@[simp] theorem State.answer_callers (s : State) (w : Word) : (s.answer w).callers = s.callers := rfl
@[simp] theorem State.answer_turns (s : State) (w : Word) : (s.answer w).turns = s.turns := rfl
@[simp] theorem State.answer_freeTurns (s : State) (w : Word) : (s.answer w).freeTurns = s.freeTurns := rfl
@[simp] theorem State.answer_draws (s : State) (w : Word) : (s.answer w).draws = s.draws := rfl
@[simp] theorem State.answer_readData (s : State) (w : Word) : (s.answer w).readData = w := rfl

/-! ### answerNamed -/

@[simp] theorem State.answerNamed_idleMode (s : State) (f : Word → Word) : (s.answerNamed f).idleMode = s.idleMode := rfl
@[simp] theorem State.answerNamed_resetDone (s : State) (f : Word → Word) : (s.answerNamed f).resetDone = s.resetDone := rfl
@[simp] theorem State.answerNamed_done0 (s : State) (f : Word → Word) : (s.answerNamed f).done0 = s.done0 := rfl
@[simp] theorem State.answerNamed_level (s : State) (f : Word → Word) : (s.answerNamed f).level = s.level := rfl
@[simp] theorem State.answerNamed_size (s : State) (f : Word → Word) : (s.answerNamed f).size = s.size := rfl
@[simp] theorem State.answerNamed_pageMode (s : State) (f : Word → Word) : (s.answerNamed f).pageMode = s.pageMode := rfl
@[simp] theorem State.answerNamed_frag (s : State) (f : Word → Word) : (s.answerNamed f).frag = s.frag := rfl
@[simp] theorem State.answerNamed_frag6Data (s : State) (f : Word → Word) : (s.answerNamed f).frag6Data = s.frag6Data := rfl
@[simp] theorem State.answerNamed_frag6Valid (s : State) (f : Word → Word) : (s.answerNamed f).frag6Valid = s.frag6Valid := rfl
@[simp] theorem State.answerNamed_correctable (s : State) (f : Word → Word) : (s.answerNamed f).correctable = s.correctable := rfl
@[simp] theorem State.answerNamed_nbErrors (s : State) (f : Word → Word) : (s.answerNamed f).nbErrors = s.nbErrors := rfl
@[simp] theorem State.answerNamed_errLoc (s : State) (f : Word → Word) : (s.answerNamed f).errLoc = s.errLoc := rfl
@[simp] theorem State.answerNamed_poweredUnreset (s : State) (f : Word → Word) : (s.answerNamed f).poweredUnreset = s.poweredUnreset := rfl
@[simp] theorem State.answerNamed_resetPending (s : State) (f : Word → Word) : (s.answerNamed f).resetPending = s.resetPending := rfl
@[simp] theorem State.answerNamed_job (s : State) (f : Word → Word) : (s.answerNamed f).job = s.job := rfl
@[simp] theorem State.answerNamed_fault (s : State) (f : Word → Word) : (s.answerNamed f).fault = s.fault := rfl
@[simp] theorem State.answerNamed_refused (s : State) (f : Word → Word) : (s.answerNamed f).refused = s.refused := rfl
@[simp] theorem State.answerNamed_instances (s : State) (f : Word → Word) : (s.answerNamed f).instances = s.instances := rfl
@[simp] theorem State.answerNamed_registry (s : State) (f : Word → Word) : (s.answerNamed f).registry = s.registry := rfl
@[simp] theorem State.answerNamed_callers (s : State) (f : Word → Word) : (s.answerNamed f).callers = s.callers := rfl
@[simp] theorem State.answerNamed_turns (s : State) (f : Word → Word) : (s.answerNamed f).turns = s.turns := rfl
@[simp] theorem State.answerNamed_freeTurns (s : State) (f : Word → Word) : (s.answerNamed f).freeTurns = s.freeTurns := rfl
@[simp] theorem State.answerNamed_draws (s : State) (f : Word → Word) : (s.answerNamed f).draws = s.draws + 1 := rfl
@[simp] theorem State.answerNamed_readData (s : State) (f : Word → Word) : (s.answerNamed f).readData = f (Config.draw 32 s.draws) := rfl

/-! ### startReset -/

@[simp] theorem State.startReset_idleMode (s : State) : s.startReset.idleMode = s.idleMode := rfl
@[simp] theorem State.startReset_resetDone (s : State) : s.startReset.resetDone = false := rfl
@[simp] theorem State.startReset_done0 (s : State) : s.startReset.done0 = s.done0 := rfl
@[simp] theorem State.startReset_level (s : State) : s.startReset.level = s.level := rfl
@[simp] theorem State.startReset_size (s : State) : s.startReset.size = s.size := rfl
@[simp] theorem State.startReset_pageMode (s : State) : s.startReset.pageMode = s.pageMode := rfl
@[simp] theorem State.startReset_frag (s : State) : s.startReset.frag = s.frag := rfl
@[simp] theorem State.startReset_frag6Data (s : State) : s.startReset.frag6Data = s.frag6Data := rfl
@[simp] theorem State.startReset_frag6Valid (s : State) : s.startReset.frag6Valid = s.frag6Valid := rfl
@[simp] theorem State.startReset_correctable (s : State) : s.startReset.correctable = s.correctable := rfl
@[simp] theorem State.startReset_nbErrors (s : State) : s.startReset.nbErrors = s.nbErrors := rfl
@[simp] theorem State.startReset_errLoc (s : State) : s.startReset.errLoc = s.errLoc := rfl
@[simp] theorem State.startReset_poweredUnreset (s : State) : s.startReset.poweredUnreset = false := rfl
@[simp] theorem State.startReset_resetPending (s : State) : s.startReset.resetPending = true := rfl
@[simp] theorem State.startReset_job (s : State) : s.startReset.job = s.job := rfl
@[simp] theorem State.startReset_fault (s : State) : s.startReset.fault = s.fault := rfl
@[simp] theorem State.startReset_refused (s : State) : s.startReset.refused = s.refused := rfl
@[simp] theorem State.startReset_instances (s : State) : s.startReset.instances = s.instances := rfl
@[simp] theorem State.startReset_registry (s : State) : s.startReset.registry = s.registry := rfl
@[simp] theorem State.startReset_callers (s : State) : s.startReset.callers = s.callers := rfl
@[simp] theorem State.startReset_turns (s : State) : s.startReset.turns = s.turns := rfl
@[simp] theorem State.startReset_freeTurns (s : State) : s.startReset.freeTurns = s.freeTurns := rfl
@[simp] theorem State.startReset_draws (s : State) : s.startReset.draws = s.draws := rfl
@[simp] theorem State.startReset_readData (s : State) : s.startReset.readData = s.readData := rfl

/-! ### storeIdleMode -/

@[simp] theorem State.storeIdleMode_idleMode (s : State) (v : BitVec 2) : (s.storeIdleMode v).idleMode = v := rfl
@[simp] theorem State.storeIdleMode_resetDone (s : State) (v : BitVec 2) : (s.storeIdleMode v).resetDone = s.resetDone := rfl
@[simp] theorem State.storeIdleMode_done0 (s : State) (v : BitVec 2) : (s.storeIdleMode v).done0 = s.done0 := rfl
@[simp] theorem State.storeIdleMode_level (s : State) (v : BitVec 2) : (s.storeIdleMode v).level = s.level := rfl
@[simp] theorem State.storeIdleMode_size (s : State) (v : BitVec 2) : (s.storeIdleMode v).size = s.size := rfl
@[simp] theorem State.storeIdleMode_pageMode (s : State) (v : BitVec 2) : (s.storeIdleMode v).pageMode = s.pageMode := rfl
@[simp] theorem State.storeIdleMode_frag (s : State) (v : BitVec 2) : (s.storeIdleMode v).frag = s.frag := rfl
@[simp] theorem State.storeIdleMode_frag6Data (s : State) (v : BitVec 2) : (s.storeIdleMode v).frag6Data = s.frag6Data := rfl
@[simp] theorem State.storeIdleMode_frag6Valid (s : State) (v : BitVec 2) : (s.storeIdleMode v).frag6Valid = s.frag6Valid := rfl
@[simp] theorem State.storeIdleMode_correctable (s : State) (v : BitVec 2) : (s.storeIdleMode v).correctable = s.correctable := rfl
@[simp] theorem State.storeIdleMode_nbErrors (s : State) (v : BitVec 2) : (s.storeIdleMode v).nbErrors = s.nbErrors := rfl
@[simp] theorem State.storeIdleMode_errLoc (s : State) (v : BitVec 2) : (s.storeIdleMode v).errLoc = s.errLoc := rfl
@[simp] theorem State.storeIdleMode_poweredUnreset (s : State) (v : BitVec 2) : (s.storeIdleMode v).poweredUnreset = s.poweredUnreset := rfl
@[simp] theorem State.storeIdleMode_resetPending (s : State) (v : BitVec 2) : (s.storeIdleMode v).resetPending = s.resetPending := rfl
@[simp] theorem State.storeIdleMode_job (s : State) (v : BitVec 2) : (s.storeIdleMode v).job = s.job := rfl
@[simp] theorem State.storeIdleMode_fault (s : State) (v : BitVec 2) : (s.storeIdleMode v).fault = s.fault := rfl
@[simp] theorem State.storeIdleMode_refused (s : State) (v : BitVec 2) : (s.storeIdleMode v).refused = s.refused := rfl
@[simp] theorem State.storeIdleMode_instances (s : State) (v : BitVec 2) : (s.storeIdleMode v).instances = s.instances := rfl
@[simp] theorem State.storeIdleMode_registry (s : State) (v : BitVec 2) : (s.storeIdleMode v).registry = s.registry := rfl
@[simp] theorem State.storeIdleMode_callers (s : State) (v : BitVec 2) : (s.storeIdleMode v).callers = s.callers := rfl
@[simp] theorem State.storeIdleMode_turns (s : State) (v : BitVec 2) : (s.storeIdleMode v).turns = s.turns := rfl
@[simp] theorem State.storeIdleMode_freeTurns (s : State) (v : BitVec 2) : (s.storeIdleMode v).freeTurns = s.freeTurns := rfl
@[simp] theorem State.storeIdleMode_draws (s : State) (v : BitVec 2) : (s.storeIdleMode v).draws = s.draws := rfl
@[simp] theorem State.storeIdleMode_readData (s : State) (v : BitVec 2) : (s.storeIdleMode v).readData = s.readData := rfl

/-! ### acknowledge -/

@[simp] theorem State.acknowledge_idleMode (s : State) (w : Word) : (s.acknowledge w).idleMode = s.idleMode := rfl
@[simp] theorem State.acknowledge_resetDone (s : State) (w : Word) : (s.acknowledge w).resetDone = s.resetDone := rfl
@[simp] theorem State.acknowledge_done0 (s : State) (w : Word) : (s.acknowledge w).done0 = doneAfterWrite s.done0 w := rfl
@[simp] theorem State.acknowledge_level (s : State) (w : Word) : (s.acknowledge w).level = s.level := rfl
@[simp] theorem State.acknowledge_size (s : State) (w : Word) : (s.acknowledge w).size = s.size := rfl
@[simp] theorem State.acknowledge_pageMode (s : State) (w : Word) : (s.acknowledge w).pageMode = s.pageMode := rfl
@[simp] theorem State.acknowledge_frag (s : State) (w : Word) : (s.acknowledge w).frag = s.frag := rfl
@[simp] theorem State.acknowledge_frag6Data (s : State) (w : Word) : (s.acknowledge w).frag6Data = s.frag6Data := rfl
@[simp] theorem State.acknowledge_frag6Valid (s : State) (w : Word) : (s.acknowledge w).frag6Valid = s.frag6Valid := rfl
@[simp] theorem State.acknowledge_correctable (s : State) (w : Word) : (s.acknowledge w).correctable = s.correctable := rfl
@[simp] theorem State.acknowledge_nbErrors (s : State) (w : Word) : (s.acknowledge w).nbErrors = s.nbErrors := rfl
@[simp] theorem State.acknowledge_errLoc (s : State) (w : Word) : (s.acknowledge w).errLoc = s.errLoc := rfl
@[simp] theorem State.acknowledge_poweredUnreset (s : State) (w : Word) : (s.acknowledge w).poweredUnreset = s.poweredUnreset := rfl
@[simp] theorem State.acknowledge_resetPending (s : State) (w : Word) : (s.acknowledge w).resetPending = s.resetPending := rfl
@[simp] theorem State.acknowledge_job (s : State) (w : Word) : (s.acknowledge w).job = s.job := rfl
@[simp] theorem State.acknowledge_fault (s : State) (w : Word) : (s.acknowledge w).fault = s.fault := rfl
@[simp] theorem State.acknowledge_refused (s : State) (w : Word) : (s.acknowledge w).refused = s.refused := rfl
@[simp] theorem State.acknowledge_instances (s : State) (w : Word) : (s.acknowledge w).instances = s.instances := rfl
@[simp] theorem State.acknowledge_registry (s : State) (w : Word) : (s.acknowledge w).registry = s.registry := rfl
@[simp] theorem State.acknowledge_callers (s : State) (w : Word) : (s.acknowledge w).callers = s.callers := rfl
@[simp] theorem State.acknowledge_turns (s : State) (w : Word) : (s.acknowledge w).turns = s.turns := rfl
@[simp] theorem State.acknowledge_freeTurns (s : State) (w : Word) : (s.acknowledge w).freeTurns = s.freeTurns := rfl
@[simp] theorem State.acknowledge_draws (s : State) (w : Word) : (s.acknowledge w).draws = s.draws := rfl
@[simp] theorem State.acknowledge_readData (s : State) (w : Word) : (s.acknowledge w).readData = s.readData := rfl

/-! ### storeConfig -/

@[simp] theorem State.storeConfig_idleMode (s : State) (l : LevelCode) (z : SizeField) : (s.storeConfig l z).idleMode = s.idleMode := rfl
@[simp] theorem State.storeConfig_resetDone (s : State) (l : LevelCode) (z : SizeField) : (s.storeConfig l z).resetDone = s.resetDone := rfl
@[simp] theorem State.storeConfig_done0 (s : State) (l : LevelCode) (z : SizeField) : (s.storeConfig l z).done0 = s.done0 := rfl
@[simp] theorem State.storeConfig_level (s : State) (l : LevelCode) (z : SizeField) : (s.storeConfig l z).level = l := rfl
@[simp] theorem State.storeConfig_size (s : State) (l : LevelCode) (z : SizeField) : (s.storeConfig l z).size = z := rfl
@[simp] theorem State.storeConfig_pageMode (s : State) (l : LevelCode) (z : SizeField) : (s.storeConfig l z).pageMode = s.pageMode := rfl
@[simp] theorem State.storeConfig_frag (s : State) (l : LevelCode) (z : SizeField) : (s.storeConfig l z).frag = s.frag := rfl
@[simp] theorem State.storeConfig_frag6Data (s : State) (l : LevelCode) (z : SizeField) : (s.storeConfig l z).frag6Data = s.frag6Data := rfl
@[simp] theorem State.storeConfig_frag6Valid (s : State) (l : LevelCode) (z : SizeField) : (s.storeConfig l z).frag6Valid = s.frag6Valid := rfl
@[simp] theorem State.storeConfig_correctable (s : State) (l : LevelCode) (z : SizeField) : (s.storeConfig l z).correctable = s.correctable := rfl
@[simp] theorem State.storeConfig_nbErrors (s : State) (l : LevelCode) (z : SizeField) : (s.storeConfig l z).nbErrors = s.nbErrors := rfl
@[simp] theorem State.storeConfig_errLoc (s : State) (l : LevelCode) (z : SizeField) : (s.storeConfig l z).errLoc = s.errLoc := rfl
@[simp] theorem State.storeConfig_poweredUnreset (s : State) (l : LevelCode) (z : SizeField) : (s.storeConfig l z).poweredUnreset = s.poweredUnreset := rfl
@[simp] theorem State.storeConfig_resetPending (s : State) (l : LevelCode) (z : SizeField) : (s.storeConfig l z).resetPending = s.resetPending := rfl
@[simp] theorem State.storeConfig_job (s : State) (l : LevelCode) (z : SizeField) : (s.storeConfig l z).job = s.job := rfl
@[simp] theorem State.storeConfig_fault (s : State) (l : LevelCode) (z : SizeField) : (s.storeConfig l z).fault = s.fault := rfl
@[simp] theorem State.storeConfig_refused (s : State) (l : LevelCode) (z : SizeField) : (s.storeConfig l z).refused = s.refused := rfl
@[simp] theorem State.storeConfig_instances (s : State) (l : LevelCode) (z : SizeField) : (s.storeConfig l z).instances = s.instances := rfl
@[simp] theorem State.storeConfig_registry (s : State) (l : LevelCode) (z : SizeField) : (s.storeConfig l z).registry = s.registry := rfl
@[simp] theorem State.storeConfig_callers (s : State) (l : LevelCode) (z : SizeField) : (s.storeConfig l z).callers = s.callers := rfl
@[simp] theorem State.storeConfig_turns (s : State) (l : LevelCode) (z : SizeField) : (s.storeConfig l z).turns = s.turns := rfl
@[simp] theorem State.storeConfig_freeTurns (s : State) (l : LevelCode) (z : SizeField) : (s.storeConfig l z).freeTurns = s.freeTurns := rfl
@[simp] theorem State.storeConfig_draws (s : State) (l : LevelCode) (z : SizeField) : (s.storeConfig l z).draws = s.draws := rfl
@[simp] theorem State.storeConfig_readData (s : State) (l : LevelCode) (z : SizeField) : (s.storeConfig l z).readData = s.readData := rfl

/-! ### storePageMode -/

@[simp] theorem State.storePageMode_idleMode (s : State) (v : Word) : (s.storePageMode v).idleMode = s.idleMode := rfl
@[simp] theorem State.storePageMode_resetDone (s : State) (v : Word) : (s.storePageMode v).resetDone = s.resetDone := rfl
@[simp] theorem State.storePageMode_done0 (s : State) (v : Word) : (s.storePageMode v).done0 = s.done0 := rfl
@[simp] theorem State.storePageMode_level (s : State) (v : Word) : (s.storePageMode v).level = s.level := rfl
@[simp] theorem State.storePageMode_size (s : State) (v : Word) : (s.storePageMode v).size = s.size := rfl
@[simp] theorem State.storePageMode_pageMode (s : State) (v : Word) : (s.storePageMode v).pageMode = v := rfl
@[simp] theorem State.storePageMode_frag (s : State) (v : Word) : (s.storePageMode v).frag = s.frag := rfl
@[simp] theorem State.storePageMode_frag6Data (s : State) (v : Word) : (s.storePageMode v).frag6Data = s.frag6Data := rfl
@[simp] theorem State.storePageMode_frag6Valid (s : State) (v : Word) : (s.storePageMode v).frag6Valid = s.frag6Valid := rfl
@[simp] theorem State.storePageMode_correctable (s : State) (v : Word) : (s.storePageMode v).correctable = s.correctable := rfl
@[simp] theorem State.storePageMode_nbErrors (s : State) (v : Word) : (s.storePageMode v).nbErrors = s.nbErrors := rfl
@[simp] theorem State.storePageMode_errLoc (s : State) (v : Word) : (s.storePageMode v).errLoc = s.errLoc := rfl
@[simp] theorem State.storePageMode_poweredUnreset (s : State) (v : Word) : (s.storePageMode v).poweredUnreset = s.poweredUnreset := rfl
@[simp] theorem State.storePageMode_resetPending (s : State) (v : Word) : (s.storePageMode v).resetPending = s.resetPending := rfl
@[simp] theorem State.storePageMode_job (s : State) (v : Word) : (s.storePageMode v).job = s.job := rfl
@[simp] theorem State.storePageMode_fault (s : State) (v : Word) : (s.storePageMode v).fault = s.fault := rfl
@[simp] theorem State.storePageMode_refused (s : State) (v : Word) : (s.storePageMode v).refused = s.refused := rfl
@[simp] theorem State.storePageMode_instances (s : State) (v : Word) : (s.storePageMode v).instances = s.instances := rfl
@[simp] theorem State.storePageMode_registry (s : State) (v : Word) : (s.storePageMode v).registry = s.registry := rfl
@[simp] theorem State.storePageMode_callers (s : State) (v : Word) : (s.storePageMode v).callers = s.callers := rfl
@[simp] theorem State.storePageMode_turns (s : State) (v : Word) : (s.storePageMode v).turns = s.turns := rfl
@[simp] theorem State.storePageMode_freeTurns (s : State) (v : Word) : (s.storePageMode v).freeTurns = s.freeTurns := rfl
@[simp] theorem State.storePageMode_draws (s : State) (v : Word) : (s.storePageMode v).draws = s.draws := rfl
@[simp] theorem State.storePageMode_readData (s : State) (v : Word) : (s.storePageMode v).readData = s.readData := rfl

/-! ### storeFrag -/

@[simp] theorem State.storeFrag_idleMode (s : State) (k : Fin 6) (v : Word) : (s.storeFrag k v).idleMode = s.idleMode := rfl
@[simp] theorem State.storeFrag_resetDone (s : State) (k : Fin 6) (v : Word) : (s.storeFrag k v).resetDone = s.resetDone := rfl
@[simp] theorem State.storeFrag_done0 (s : State) (k : Fin 6) (v : Word) : (s.storeFrag k v).done0 = s.done0 := rfl
@[simp] theorem State.storeFrag_level (s : State) (k : Fin 6) (v : Word) : (s.storeFrag k v).level = s.level := rfl
@[simp] theorem State.storeFrag_size (s : State) (k : Fin 6) (v : Word) : (s.storeFrag k v).size = s.size := rfl
@[simp] theorem State.storeFrag_pageMode (s : State) (k : Fin 6) (v : Word) : (s.storeFrag k v).pageMode = s.pageMode := rfl
@[simp] theorem State.storeFrag_frag (s : State) (k : Fin 6) (v : Word) : (s.storeFrag k v).frag = s.frag.set k.val v k.isLt := rfl
@[simp] theorem State.storeFrag_frag6Data (s : State) (k : Fin 6) (v : Word) : (s.storeFrag k v).frag6Data = s.frag6Data := rfl
@[simp] theorem State.storeFrag_frag6Valid (s : State) (k : Fin 6) (v : Word) : (s.storeFrag k v).frag6Valid = s.frag6Valid := rfl
@[simp] theorem State.storeFrag_correctable (s : State) (k : Fin 6) (v : Word) : (s.storeFrag k v).correctable = s.correctable := rfl
@[simp] theorem State.storeFrag_nbErrors (s : State) (k : Fin 6) (v : Word) : (s.storeFrag k v).nbErrors = s.nbErrors := rfl
@[simp] theorem State.storeFrag_errLoc (s : State) (k : Fin 6) (v : Word) : (s.storeFrag k v).errLoc = s.errLoc := rfl
@[simp] theorem State.storeFrag_poweredUnreset (s : State) (k : Fin 6) (v : Word) : (s.storeFrag k v).poweredUnreset = s.poweredUnreset := rfl
@[simp] theorem State.storeFrag_resetPending (s : State) (k : Fin 6) (v : Word) : (s.storeFrag k v).resetPending = s.resetPending := rfl
@[simp] theorem State.storeFrag_job (s : State) (k : Fin 6) (v : Word) : (s.storeFrag k v).job = s.job := rfl
@[simp] theorem State.storeFrag_fault (s : State) (k : Fin 6) (v : Word) : (s.storeFrag k v).fault = s.fault := rfl
@[simp] theorem State.storeFrag_refused (s : State) (k : Fin 6) (v : Word) : (s.storeFrag k v).refused = s.refused := rfl
@[simp] theorem State.storeFrag_instances (s : State) (k : Fin 6) (v : Word) : (s.storeFrag k v).instances = s.instances := rfl
@[simp] theorem State.storeFrag_registry (s : State) (k : Fin 6) (v : Word) : (s.storeFrag k v).registry = s.registry := rfl
@[simp] theorem State.storeFrag_callers (s : State) (k : Fin 6) (v : Word) : (s.storeFrag k v).callers = s.callers := rfl
@[simp] theorem State.storeFrag_turns (s : State) (k : Fin 6) (v : Word) : (s.storeFrag k v).turns = s.turns := rfl
@[simp] theorem State.storeFrag_freeTurns (s : State) (k : Fin 6) (v : Word) : (s.storeFrag k v).freeTurns = s.freeTurns := rfl
@[simp] theorem State.storeFrag_draws (s : State) (k : Fin 6) (v : Word) : (s.storeFrag k v).draws = s.draws := rfl
@[simp] theorem State.storeFrag_readData (s : State) (k : Fin 6) (v : Word) : (s.storeFrag k v).readData = s.readData := rfl

/-! ### storeFrag6 -/

@[simp] theorem State.storeFrag6_idleMode (s : State) (v : BitVec 16) (b : Bool) : (s.storeFrag6 v b).idleMode = s.idleMode := rfl
@[simp] theorem State.storeFrag6_resetDone (s : State) (v : BitVec 16) (b : Bool) : (s.storeFrag6 v b).resetDone = s.resetDone := rfl
@[simp] theorem State.storeFrag6_done0 (s : State) (v : BitVec 16) (b : Bool) : (s.storeFrag6 v b).done0 = s.done0 := rfl
@[simp] theorem State.storeFrag6_level (s : State) (v : BitVec 16) (b : Bool) : (s.storeFrag6 v b).level = s.level := rfl
@[simp] theorem State.storeFrag6_size (s : State) (v : BitVec 16) (b : Bool) : (s.storeFrag6 v b).size = s.size := rfl
@[simp] theorem State.storeFrag6_pageMode (s : State) (v : BitVec 16) (b : Bool) : (s.storeFrag6 v b).pageMode = s.pageMode := rfl
@[simp] theorem State.storeFrag6_frag (s : State) (v : BitVec 16) (b : Bool) : (s.storeFrag6 v b).frag = s.frag := rfl
@[simp] theorem State.storeFrag6_frag6Data (s : State) (v : BitVec 16) (b : Bool) : (s.storeFrag6 v b).frag6Data = v := rfl
@[simp] theorem State.storeFrag6_frag6Valid (s : State) (v : BitVec 16) (b : Bool) : (s.storeFrag6 v b).frag6Valid = b := rfl
@[simp] theorem State.storeFrag6_correctable (s : State) (v : BitVec 16) (b : Bool) : (s.storeFrag6 v b).correctable = s.correctable := rfl
@[simp] theorem State.storeFrag6_nbErrors (s : State) (v : BitVec 16) (b : Bool) : (s.storeFrag6 v b).nbErrors = s.nbErrors := rfl
@[simp] theorem State.storeFrag6_errLoc (s : State) (v : BitVec 16) (b : Bool) : (s.storeFrag6 v b).errLoc = s.errLoc := rfl
@[simp] theorem State.storeFrag6_poweredUnreset (s : State) (v : BitVec 16) (b : Bool) : (s.storeFrag6 v b).poweredUnreset = s.poweredUnreset := rfl
@[simp] theorem State.storeFrag6_resetPending (s : State) (v : BitVec 16) (b : Bool) : (s.storeFrag6 v b).resetPending = s.resetPending := rfl
@[simp] theorem State.storeFrag6_job (s : State) (v : BitVec 16) (b : Bool) : (s.storeFrag6 v b).job = s.job := rfl
@[simp] theorem State.storeFrag6_fault (s : State) (v : BitVec 16) (b : Bool) : (s.storeFrag6 v b).fault = s.fault := rfl
@[simp] theorem State.storeFrag6_refused (s : State) (v : BitVec 16) (b : Bool) : (s.storeFrag6 v b).refused = s.refused := rfl
@[simp] theorem State.storeFrag6_instances (s : State) (v : BitVec 16) (b : Bool) : (s.storeFrag6 v b).instances = s.instances := rfl
@[simp] theorem State.storeFrag6_registry (s : State) (v : BitVec 16) (b : Bool) : (s.storeFrag6 v b).registry = s.registry := rfl
@[simp] theorem State.storeFrag6_callers (s : State) (v : BitVec 16) (b : Bool) : (s.storeFrag6 v b).callers = s.callers := rfl
@[simp] theorem State.storeFrag6_turns (s : State) (v : BitVec 16) (b : Bool) : (s.storeFrag6 v b).turns = s.turns := rfl
@[simp] theorem State.storeFrag6_freeTurns (s : State) (v : BitVec 16) (b : Bool) : (s.storeFrag6 v b).freeTurns = s.freeTurns := rfl
@[simp] theorem State.storeFrag6_draws (s : State) (v : BitVec 16) (b : Bool) : (s.storeFrag6 v b).draws = s.draws := rfl
@[simp] theorem State.storeFrag6_readData (s : State) (v : BitVec 16) (b : Bool) : (s.storeFrag6 v b).readData = s.readData := rfl

/-! ### createJob -/

@[simp] theorem State.createJob_idleMode (s : State) : s.createJob.idleMode = s.idleMode := rfl
@[simp] theorem State.createJob_resetDone (s : State) : s.createJob.resetDone = s.resetDone := rfl
@[simp] theorem State.createJob_done0 (s : State) : s.createJob.done0 = s.done0 := rfl
@[simp] theorem State.createJob_level (s : State) : s.createJob.level = s.level := rfl
@[simp] theorem State.createJob_size (s : State) : s.createJob.size = s.size := rfl
@[simp] theorem State.createJob_pageMode (s : State) : s.createJob.pageMode = s.pageMode := rfl
@[simp] theorem State.createJob_frag (s : State) : s.createJob.frag = s.frag := rfl
@[simp] theorem State.createJob_frag6Data (s : State) : s.createJob.frag6Data = s.frag6Data := rfl
@[simp] theorem State.createJob_frag6Valid (s : State) : s.createJob.frag6Valid = s.frag6Valid := rfl
@[simp] theorem State.createJob_correctable (s : State) : s.createJob.correctable = s.correctable := rfl
@[simp] theorem State.createJob_nbErrors (s : State) : s.createJob.nbErrors = s.nbErrors := rfl
@[simp] theorem State.createJob_errLoc (s : State) : s.createJob.errLoc = s.errLoc := rfl
@[simp] theorem State.createJob_poweredUnreset (s : State) : s.createJob.poweredUnreset = s.poweredUnreset := rfl
@[simp] theorem State.createJob_resetPending (s : State) : s.createJob.resetPending = s.resetPending := rfl
@[simp] theorem State.createJob_job (s : State) : s.createJob.job = some s.sampledJob := rfl
@[simp] theorem State.createJob_fault (s : State) : s.createJob.fault = s.fault := rfl
@[simp] theorem State.createJob_refused (s : State) : s.createJob.refused = s.refused := rfl
@[simp] theorem State.createJob_instances (s : State) : s.createJob.instances = s.instances := rfl
@[simp] theorem State.createJob_registry (s : State) : s.createJob.registry = s.registry := rfl
@[simp] theorem State.createJob_callers (s : State) : s.createJob.callers = s.callers := rfl
@[simp] theorem State.createJob_turns (s : State) : s.createJob.turns = s.turns := rfl
@[simp] theorem State.createJob_freeTurns (s : State) : s.createJob.freeTurns = s.freeTurns := rfl
@[simp] theorem State.createJob_draws (s : State) : s.createJob.draws = s.draws := rfl
@[simp] theorem State.createJob_readData (s : State) : s.createJob.readData = s.readData := rfl

/-! ### completeReset -/

@[simp] theorem State.completeReset_idleMode (s : State) : s.completeReset.idleMode = Config.draw 2 s.draws := rfl
@[simp] theorem State.completeReset_resetDone (s : State) : s.completeReset.resetDone = true := rfl
@[simp] theorem State.completeReset_done0 (s : State) : s.completeReset.done0 = false := rfl
@[simp] theorem State.completeReset_level (s : State) : s.completeReset.level = Config.draw 2 (s.draws + 1) := rfl
@[simp] theorem State.completeReset_size (s : State) : s.completeReset.size = Config.draw 11 (s.draws + 2) := rfl
@[simp] theorem State.completeReset_pageMode (s : State) : s.completeReset.pageMode = Config.draw 32 (s.draws + 3) := rfl
@[simp] theorem State.completeReset_frag (s : State) : s.completeReset.frag = Vector.replicate 6 0 := rfl
@[simp] theorem State.completeReset_frag6Data (s : State) : s.completeReset.frag6Data = 0 := rfl
@[simp] theorem State.completeReset_frag6Valid (s : State) : s.completeReset.frag6Valid = false := rfl
@[simp] theorem State.completeReset_correctable (s : State) : s.completeReset.correctable = Config.drawBit (s.draws + 4) := rfl
@[simp] theorem State.completeReset_nbErrors (s : State) : s.completeReset.nbErrors = Config.draw 5 (s.draws + 5) := rfl
@[simp] theorem State.completeReset_errLoc (s : State) : s.completeReset.errLoc = slotsOf [] (s.draws + 6) := rfl
@[simp] theorem State.completeReset_poweredUnreset (s : State) : s.completeReset.poweredUnreset = s.poweredUnreset := rfl
@[simp] theorem State.completeReset_resetPending (s : State) : s.completeReset.resetPending = false := rfl
@[simp] theorem State.completeReset_job (s : State) : s.completeReset.job = none := rfl
@[simp] theorem State.completeReset_fault (s : State) : s.completeReset.fault = s.fault := rfl
@[simp] theorem State.completeReset_refused (s : State) : s.completeReset.refused = s.refused := rfl
@[simp] theorem State.completeReset_instances (s : State) : s.completeReset.instances = s.instances := rfl
@[simp] theorem State.completeReset_registry (s : State) : s.completeReset.registry = s.registry := rfl
@[simp] theorem State.completeReset_callers (s : State) : s.completeReset.callers = s.callers := rfl
@[simp] theorem State.completeReset_turns (s : State) : s.completeReset.turns = s.turns := rfl
@[simp] theorem State.completeReset_freeTurns (s : State) : s.completeReset.freeTurns = s.freeTurns := rfl
@[simp] theorem State.completeReset_draws (s : State) : s.completeReset.draws = s.draws + 22 := rfl
@[simp] theorem State.completeReset_readData (s : State) : s.completeReset.readData = s.readData := rfl

/-! ### publish -/

@[simp] theorem State.publish_idleMode (s : State) (v : Verdict) : (s.publish v).idleMode = s.idleMode := rfl
@[simp] theorem State.publish_resetDone (s : State) (v : Verdict) : (s.publish v).resetDone = s.resetDone := rfl
@[simp] theorem State.publish_done0 (s : State) (v : Verdict) : (s.publish v).done0 = true := rfl
@[simp] theorem State.publish_level (s : State) (v : Verdict) : (s.publish v).level = s.level := rfl
@[simp] theorem State.publish_size (s : State) (v : Verdict) : (s.publish v).size = s.size := rfl
@[simp] theorem State.publish_pageMode (s : State) (v : Verdict) : (s.publish v).pageMode = s.pageMode := rfl
@[simp] theorem State.publish_frag (s : State) (v : Verdict) : (s.publish v).frag = s.frag := rfl
@[simp] theorem State.publish_frag6Data (s : State) (v : Verdict) : (s.publish v).frag6Data = s.frag6Data := rfl
@[simp] theorem State.publish_frag6Valid (s : State) (v : Verdict) : (s.publish v).frag6Valid = Config.drawBit (s.draws + 17) := rfl
@[simp] theorem State.publish_correctable (s : State) (v : Verdict) : (s.publish v).correctable = correctableAfter v := rfl
@[simp] theorem State.publish_nbErrors (s : State) (v : Verdict) : (s.publish v).nbErrors = countAfter v s.draws := rfl
@[simp] theorem State.publish_errLoc (s : State) (v : Verdict) : (s.publish v).errLoc = slotsOf (locationsOf v) (s.draws + 1) := rfl
@[simp] theorem State.publish_poweredUnreset (s : State) (v : Verdict) : (s.publish v).poweredUnreset = s.poweredUnreset := rfl
@[simp] theorem State.publish_resetPending (s : State) (v : Verdict) : (s.publish v).resetPending = s.resetPending := rfl
@[simp] theorem State.publish_job (s : State) (v : Verdict) : (s.publish v).job = none := rfl
@[simp] theorem State.publish_fault (s : State) (v : Verdict) : (s.publish v).fault = s.fault := rfl
@[simp] theorem State.publish_refused (s : State) (v : Verdict) : (s.publish v).refused = s.refused := rfl
@[simp] theorem State.publish_instances (s : State) (v : Verdict) : (s.publish v).instances = s.instances := rfl
@[simp] theorem State.publish_registry (s : State) (v : Verdict) : (s.publish v).registry = s.registry := rfl
@[simp] theorem State.publish_callers (s : State) (v : Verdict) : (s.publish v).callers = s.callers := rfl
@[simp] theorem State.publish_turns (s : State) (v : Verdict) : (s.publish v).turns = s.turns := rfl
@[simp] theorem State.publish_freeTurns (s : State) (v : Verdict) : (s.publish v).freeTurns = s.freeTurns := rfl
@[simp] theorem State.publish_draws (s : State) (v : Verdict) : (s.publish v).draws = s.draws + 18 := rfl
@[simp] theorem State.publish_readData (s : State) (v : Verdict) : (s.publish v).readData = s.readData := rfl

/-! ### markRefused -/

@[simp] theorem State.markRefused_idleMode (s : State) (r : Refusal) : (s.markRefused r).idleMode = s.idleMode := rfl
@[simp] theorem State.markRefused_resetDone (s : State) (r : Refusal) : (s.markRefused r).resetDone = s.resetDone := rfl
@[simp] theorem State.markRefused_done0 (s : State) (r : Refusal) : (s.markRefused r).done0 = s.done0 := rfl
@[simp] theorem State.markRefused_level (s : State) (r : Refusal) : (s.markRefused r).level = s.level := rfl
@[simp] theorem State.markRefused_size (s : State) (r : Refusal) : (s.markRefused r).size = s.size := rfl
@[simp] theorem State.markRefused_pageMode (s : State) (r : Refusal) : (s.markRefused r).pageMode = s.pageMode := rfl
@[simp] theorem State.markRefused_frag (s : State) (r : Refusal) : (s.markRefused r).frag = s.frag := rfl
@[simp] theorem State.markRefused_frag6Data (s : State) (r : Refusal) : (s.markRefused r).frag6Data = s.frag6Data := rfl
@[simp] theorem State.markRefused_frag6Valid (s : State) (r : Refusal) : (s.markRefused r).frag6Valid = s.frag6Valid := rfl
@[simp] theorem State.markRefused_correctable (s : State) (r : Refusal) : (s.markRefused r).correctable = s.correctable := rfl
@[simp] theorem State.markRefused_nbErrors (s : State) (r : Refusal) : (s.markRefused r).nbErrors = s.nbErrors := rfl
@[simp] theorem State.markRefused_errLoc (s : State) (r : Refusal) : (s.markRefused r).errLoc = s.errLoc := rfl
@[simp] theorem State.markRefused_poweredUnreset (s : State) (r : Refusal) : (s.markRefused r).poweredUnreset = s.poweredUnreset := rfl
@[simp] theorem State.markRefused_resetPending (s : State) (r : Refusal) : (s.markRefused r).resetPending = s.resetPending := rfl
@[simp] theorem State.markRefused_job (s : State) (r : Refusal) : (s.markRefused r).job = s.job := rfl
@[simp] theorem State.markRefused_fault (s : State) (r : Refusal) : (s.markRefused r).fault = s.fault := rfl
@[simp] theorem State.markRefused_refused (s : State) (r : Refusal) : (s.markRefused r).refused = some r := rfl
@[simp] theorem State.markRefused_instances (s : State) (r : Refusal) : (s.markRefused r).instances = s.instances := rfl
@[simp] theorem State.markRefused_registry (s : State) (r : Refusal) : (s.markRefused r).registry = s.registry := rfl
@[simp] theorem State.markRefused_callers (s : State) (r : Refusal) : (s.markRefused r).callers = s.callers := rfl
@[simp] theorem State.markRefused_turns (s : State) (r : Refusal) : (s.markRefused r).turns = s.turns := rfl
@[simp] theorem State.markRefused_freeTurns (s : State) (r : Refusal) : (s.markRefused r).freeTurns = s.freeTurns := rfl
@[simp] theorem State.markRefused_draws (s : State) (r : Refusal) : (s.markRefused r).draws = s.draws := rfl
@[simp] theorem State.markRefused_readData (s : State) (r : Refusal) : (s.markRefused r).readData = s.readData := rfl

/-! ### setTurns -/

@[simp] theorem State.setTurns_idleMode (s : State) (ts : List Agent) : (s.setTurns ts).idleMode = s.idleMode := rfl
@[simp] theorem State.setTurns_resetDone (s : State) (ts : List Agent) : (s.setTurns ts).resetDone = s.resetDone := rfl
@[simp] theorem State.setTurns_done0 (s : State) (ts : List Agent) : (s.setTurns ts).done0 = s.done0 := rfl
@[simp] theorem State.setTurns_level (s : State) (ts : List Agent) : (s.setTurns ts).level = s.level := rfl
@[simp] theorem State.setTurns_size (s : State) (ts : List Agent) : (s.setTurns ts).size = s.size := rfl
@[simp] theorem State.setTurns_pageMode (s : State) (ts : List Agent) : (s.setTurns ts).pageMode = s.pageMode := rfl
@[simp] theorem State.setTurns_frag (s : State) (ts : List Agent) : (s.setTurns ts).frag = s.frag := rfl
@[simp] theorem State.setTurns_frag6Data (s : State) (ts : List Agent) : (s.setTurns ts).frag6Data = s.frag6Data := rfl
@[simp] theorem State.setTurns_frag6Valid (s : State) (ts : List Agent) : (s.setTurns ts).frag6Valid = s.frag6Valid := rfl
@[simp] theorem State.setTurns_correctable (s : State) (ts : List Agent) : (s.setTurns ts).correctable = s.correctable := rfl
@[simp] theorem State.setTurns_nbErrors (s : State) (ts : List Agent) : (s.setTurns ts).nbErrors = s.nbErrors := rfl
@[simp] theorem State.setTurns_errLoc (s : State) (ts : List Agent) : (s.setTurns ts).errLoc = s.errLoc := rfl
@[simp] theorem State.setTurns_poweredUnreset (s : State) (ts : List Agent) : (s.setTurns ts).poweredUnreset = s.poweredUnreset := rfl
@[simp] theorem State.setTurns_resetPending (s : State) (ts : List Agent) : (s.setTurns ts).resetPending = s.resetPending := rfl
@[simp] theorem State.setTurns_job (s : State) (ts : List Agent) : (s.setTurns ts).job = s.job := rfl
@[simp] theorem State.setTurns_fault (s : State) (ts : List Agent) : (s.setTurns ts).fault = s.fault := rfl
@[simp] theorem State.setTurns_refused (s : State) (ts : List Agent) : (s.setTurns ts).refused = s.refused := rfl
@[simp] theorem State.setTurns_instances (s : State) (ts : List Agent) : (s.setTurns ts).instances = s.instances := rfl
@[simp] theorem State.setTurns_registry (s : State) (ts : List Agent) : (s.setTurns ts).registry = s.registry := rfl
@[simp] theorem State.setTurns_callers (s : State) (ts : List Agent) : (s.setTurns ts).callers = s.callers := rfl
@[simp] theorem State.setTurns_turns (s : State) (ts : List Agent) : (s.setTurns ts).turns = ts := rfl
@[simp] theorem State.setTurns_freeTurns (s : State) (ts : List Agent) : (s.setTurns ts).freeTurns = s.freeTurns := rfl
@[simp] theorem State.setTurns_draws (s : State) (ts : List Agent) : (s.setTurns ts).draws = s.draws := rfl
@[simp] theorem State.setTurns_readData (s : State) (ts : List Agent) : (s.setTurns ts).readData = s.readData := rfl

/-! ### useFreeTurn -/

@[simp] theorem State.useFreeTurn_idleMode (s : State) : s.useFreeTurn.idleMode = s.idleMode := rfl
@[simp] theorem State.useFreeTurn_resetDone (s : State) : s.useFreeTurn.resetDone = s.resetDone := rfl
@[simp] theorem State.useFreeTurn_done0 (s : State) : s.useFreeTurn.done0 = s.done0 := rfl
@[simp] theorem State.useFreeTurn_level (s : State) : s.useFreeTurn.level = s.level := rfl
@[simp] theorem State.useFreeTurn_size (s : State) : s.useFreeTurn.size = s.size := rfl
@[simp] theorem State.useFreeTurn_pageMode (s : State) : s.useFreeTurn.pageMode = s.pageMode := rfl
@[simp] theorem State.useFreeTurn_frag (s : State) : s.useFreeTurn.frag = s.frag := rfl
@[simp] theorem State.useFreeTurn_frag6Data (s : State) : s.useFreeTurn.frag6Data = s.frag6Data := rfl
@[simp] theorem State.useFreeTurn_frag6Valid (s : State) : s.useFreeTurn.frag6Valid = s.frag6Valid := rfl
@[simp] theorem State.useFreeTurn_correctable (s : State) : s.useFreeTurn.correctable = s.correctable := rfl
@[simp] theorem State.useFreeTurn_nbErrors (s : State) : s.useFreeTurn.nbErrors = s.nbErrors := rfl
@[simp] theorem State.useFreeTurn_errLoc (s : State) : s.useFreeTurn.errLoc = s.errLoc := rfl
@[simp] theorem State.useFreeTurn_poweredUnreset (s : State) : s.useFreeTurn.poweredUnreset = s.poweredUnreset := rfl
@[simp] theorem State.useFreeTurn_resetPending (s : State) : s.useFreeTurn.resetPending = s.resetPending := rfl
@[simp] theorem State.useFreeTurn_job (s : State) : s.useFreeTurn.job = s.job := rfl
@[simp] theorem State.useFreeTurn_fault (s : State) : s.useFreeTurn.fault = s.fault := rfl
@[simp] theorem State.useFreeTurn_refused (s : State) : s.useFreeTurn.refused = s.refused := rfl
@[simp] theorem State.useFreeTurn_instances (s : State) : s.useFreeTurn.instances = s.instances := rfl
@[simp] theorem State.useFreeTurn_registry (s : State) : s.useFreeTurn.registry = s.registry := rfl
@[simp] theorem State.useFreeTurn_callers (s : State) : s.useFreeTurn.callers = s.callers := rfl
@[simp] theorem State.useFreeTurn_turns (s : State) : s.useFreeTurn.turns = s.turns := rfl
@[simp] theorem State.useFreeTurn_freeTurns (s : State) : s.useFreeTurn.freeTurns = s.freeTurns + 1 := rfl
@[simp] theorem State.useFreeTurn_draws (s : State) : s.useFreeTurn.draws = s.draws := rfl
@[simp] theorem State.useFreeTurn_readData (s : State) : s.useFreeTurn.readData = s.readData := rfl

/-! ### setCaller -/

@[simp] theorem State.setCaller_idleMode (s : State) (k : Nat) (c : Caller) : (s.setCaller k c).idleMode = s.idleMode := rfl
@[simp] theorem State.setCaller_resetDone (s : State) (k : Nat) (c : Caller) : (s.setCaller k c).resetDone = s.resetDone := rfl
@[simp] theorem State.setCaller_done0 (s : State) (k : Nat) (c : Caller) : (s.setCaller k c).done0 = s.done0 := rfl
@[simp] theorem State.setCaller_level (s : State) (k : Nat) (c : Caller) : (s.setCaller k c).level = s.level := rfl
@[simp] theorem State.setCaller_size (s : State) (k : Nat) (c : Caller) : (s.setCaller k c).size = s.size := rfl
@[simp] theorem State.setCaller_pageMode (s : State) (k : Nat) (c : Caller) : (s.setCaller k c).pageMode = s.pageMode := rfl
@[simp] theorem State.setCaller_frag (s : State) (k : Nat) (c : Caller) : (s.setCaller k c).frag = s.frag := rfl
@[simp] theorem State.setCaller_frag6Data (s : State) (k : Nat) (c : Caller) : (s.setCaller k c).frag6Data = s.frag6Data := rfl
@[simp] theorem State.setCaller_frag6Valid (s : State) (k : Nat) (c : Caller) : (s.setCaller k c).frag6Valid = s.frag6Valid := rfl
@[simp] theorem State.setCaller_correctable (s : State) (k : Nat) (c : Caller) : (s.setCaller k c).correctable = s.correctable := rfl
@[simp] theorem State.setCaller_nbErrors (s : State) (k : Nat) (c : Caller) : (s.setCaller k c).nbErrors = s.nbErrors := rfl
@[simp] theorem State.setCaller_errLoc (s : State) (k : Nat) (c : Caller) : (s.setCaller k c).errLoc = s.errLoc := rfl
@[simp] theorem State.setCaller_poweredUnreset (s : State) (k : Nat) (c : Caller) : (s.setCaller k c).poweredUnreset = s.poweredUnreset := rfl
@[simp] theorem State.setCaller_resetPending (s : State) (k : Nat) (c : Caller) : (s.setCaller k c).resetPending = s.resetPending := rfl
@[simp] theorem State.setCaller_job (s : State) (k : Nat) (c : Caller) : (s.setCaller k c).job = s.job := rfl
@[simp] theorem State.setCaller_fault (s : State) (k : Nat) (c : Caller) : (s.setCaller k c).fault = s.fault := rfl
@[simp] theorem State.setCaller_refused (s : State) (k : Nat) (c : Caller) : (s.setCaller k c).refused = s.refused := rfl
@[simp] theorem State.setCaller_instances (s : State) (k : Nat) (c : Caller) : (s.setCaller k c).instances = s.instances := rfl
@[simp] theorem State.setCaller_registry (s : State) (k : Nat) (c : Caller) : (s.setCaller k c).registry = s.registry := rfl
@[simp] theorem State.setCaller_callers (s : State) (k : Nat) (c : Caller) : (s.setCaller k c).callers = s.callers.set k c := rfl
@[simp] theorem State.setCaller_turns (s : State) (k : Nat) (c : Caller) : (s.setCaller k c).turns = s.turns := rfl
@[simp] theorem State.setCaller_freeTurns (s : State) (k : Nat) (c : Caller) : (s.setCaller k c).freeTurns = s.freeTurns := rfl
@[simp] theorem State.setCaller_draws (s : State) (k : Nat) (c : Caller) : (s.setCaller k c).draws = s.draws := rfl
@[simp] theorem State.setCaller_readData (s : State) (k : Nat) (c : Caller) : (s.setCaller k c).readData = s.readData := rfl

/-! ### addInstance -/

@[simp] theorem State.addInstance_idleMode (s : State) (inst : Instance) : (s.addInstance inst).idleMode = s.idleMode := rfl
@[simp] theorem State.addInstance_resetDone (s : State) (inst : Instance) : (s.addInstance inst).resetDone = s.resetDone := rfl
@[simp] theorem State.addInstance_done0 (s : State) (inst : Instance) : (s.addInstance inst).done0 = s.done0 := rfl
@[simp] theorem State.addInstance_level (s : State) (inst : Instance) : (s.addInstance inst).level = s.level := rfl
@[simp] theorem State.addInstance_size (s : State) (inst : Instance) : (s.addInstance inst).size = s.size := rfl
@[simp] theorem State.addInstance_pageMode (s : State) (inst : Instance) : (s.addInstance inst).pageMode = s.pageMode := rfl
@[simp] theorem State.addInstance_frag (s : State) (inst : Instance) : (s.addInstance inst).frag = s.frag := rfl
@[simp] theorem State.addInstance_frag6Data (s : State) (inst : Instance) : (s.addInstance inst).frag6Data = s.frag6Data := rfl
@[simp] theorem State.addInstance_frag6Valid (s : State) (inst : Instance) : (s.addInstance inst).frag6Valid = s.frag6Valid := rfl
@[simp] theorem State.addInstance_correctable (s : State) (inst : Instance) : (s.addInstance inst).correctable = s.correctable := rfl
@[simp] theorem State.addInstance_nbErrors (s : State) (inst : Instance) : (s.addInstance inst).nbErrors = s.nbErrors := rfl
@[simp] theorem State.addInstance_errLoc (s : State) (inst : Instance) : (s.addInstance inst).errLoc = s.errLoc := rfl
@[simp] theorem State.addInstance_poweredUnreset (s : State) (inst : Instance) : (s.addInstance inst).poweredUnreset = s.poweredUnreset := rfl
@[simp] theorem State.addInstance_resetPending (s : State) (inst : Instance) : (s.addInstance inst).resetPending = s.resetPending := rfl
@[simp] theorem State.addInstance_job (s : State) (inst : Instance) : (s.addInstance inst).job = s.job := rfl
@[simp] theorem State.addInstance_fault (s : State) (inst : Instance) : (s.addInstance inst).fault = s.fault := rfl
@[simp] theorem State.addInstance_refused (s : State) (inst : Instance) : (s.addInstance inst).refused = s.refused := rfl
@[simp] theorem State.addInstance_instances (s : State) (inst : Instance) : (s.addInstance inst).instances = s.instances ++ [inst] := rfl
@[simp] theorem State.addInstance_registry (s : State) (inst : Instance) : (s.addInstance inst).registry = s.registry := rfl
@[simp] theorem State.addInstance_callers (s : State) (inst : Instance) : (s.addInstance inst).callers = s.callers := rfl
@[simp] theorem State.addInstance_turns (s : State) (inst : Instance) : (s.addInstance inst).turns = s.turns := rfl
@[simp] theorem State.addInstance_freeTurns (s : State) (inst : Instance) : (s.addInstance inst).freeTurns = s.freeTurns := rfl
@[simp] theorem State.addInstance_draws (s : State) (inst : Instance) : (s.addInstance inst).draws = s.draws := rfl
@[simp] theorem State.addInstance_readData (s : State) (inst : Instance) : (s.addInstance inst).readData = s.readData := rfl

/-! ### storeLevel -/

@[simp] theorem State.storeLevel_idleMode (s : State) (handle : Nat) (level : Strength) : (s.storeLevel handle level).idleMode = s.idleMode := rfl
@[simp] theorem State.storeLevel_resetDone (s : State) (handle : Nat) (level : Strength) : (s.storeLevel handle level).resetDone = s.resetDone := rfl
@[simp] theorem State.storeLevel_done0 (s : State) (handle : Nat) (level : Strength) : (s.storeLevel handle level).done0 = s.done0 := rfl
@[simp] theorem State.storeLevel_level (s : State) (handle : Nat) (level : Strength) : (s.storeLevel handle level).level = s.level := rfl
@[simp] theorem State.storeLevel_size (s : State) (handle : Nat) (level : Strength) : (s.storeLevel handle level).size = s.size := rfl
@[simp] theorem State.storeLevel_pageMode (s : State) (handle : Nat) (level : Strength) : (s.storeLevel handle level).pageMode = s.pageMode := rfl
@[simp] theorem State.storeLevel_frag (s : State) (handle : Nat) (level : Strength) : (s.storeLevel handle level).frag = s.frag := rfl
@[simp] theorem State.storeLevel_frag6Data (s : State) (handle : Nat) (level : Strength) : (s.storeLevel handle level).frag6Data = s.frag6Data := rfl
@[simp] theorem State.storeLevel_frag6Valid (s : State) (handle : Nat) (level : Strength) : (s.storeLevel handle level).frag6Valid = s.frag6Valid := rfl
@[simp] theorem State.storeLevel_correctable (s : State) (handle : Nat) (level : Strength) : (s.storeLevel handle level).correctable = s.correctable := rfl
@[simp] theorem State.storeLevel_nbErrors (s : State) (handle : Nat) (level : Strength) : (s.storeLevel handle level).nbErrors = s.nbErrors := rfl
@[simp] theorem State.storeLevel_errLoc (s : State) (handle : Nat) (level : Strength) : (s.storeLevel handle level).errLoc = s.errLoc := rfl
@[simp] theorem State.storeLevel_poweredUnreset (s : State) (handle : Nat) (level : Strength) : (s.storeLevel handle level).poweredUnreset = s.poweredUnreset := rfl
@[simp] theorem State.storeLevel_resetPending (s : State) (handle : Nat) (level : Strength) : (s.storeLevel handle level).resetPending = s.resetPending := rfl
@[simp] theorem State.storeLevel_job (s : State) (handle : Nat) (level : Strength) : (s.storeLevel handle level).job = s.job := rfl
@[simp] theorem State.storeLevel_fault (s : State) (handle : Nat) (level : Strength) : (s.storeLevel handle level).fault = s.fault := rfl
@[simp] theorem State.storeLevel_refused (s : State) (handle : Nat) (level : Strength) : (s.storeLevel handle level).refused = s.refused := rfl
@[simp] theorem State.storeLevel_instances (s : State) (handle : Nat) (level : Strength) : (s.storeLevel handle level).instances = s.instances.modify handle fun inst => { inst with level := level } := rfl
@[simp] theorem State.storeLevel_registry (s : State) (handle : Nat) (level : Strength) : (s.storeLevel handle level).registry = s.registry := rfl
@[simp] theorem State.storeLevel_callers (s : State) (handle : Nat) (level : Strength) : (s.storeLevel handle level).callers = s.callers := rfl
@[simp] theorem State.storeLevel_turns (s : State) (handle : Nat) (level : Strength) : (s.storeLevel handle level).turns = s.turns := rfl
@[simp] theorem State.storeLevel_freeTurns (s : State) (handle : Nat) (level : Strength) : (s.storeLevel handle level).freeTurns = s.freeTurns := rfl
@[simp] theorem State.storeLevel_draws (s : State) (handle : Nat) (level : Strength) : (s.storeLevel handle level).draws = s.draws := rfl
@[simp] theorem State.storeLevel_readData (s : State) (handle : Nat) (level : Strength) : (s.storeLevel handle level).readData = s.readData := rfl

/-! ### appendRegistry -/

@[simp] theorem State.appendRegistry_idleMode (s : State) (handle : Nat) : (s.appendRegistry handle).idleMode = s.idleMode := rfl
@[simp] theorem State.appendRegistry_resetDone (s : State) (handle : Nat) : (s.appendRegistry handle).resetDone = s.resetDone := rfl
@[simp] theorem State.appendRegistry_done0 (s : State) (handle : Nat) : (s.appendRegistry handle).done0 = s.done0 := rfl
@[simp] theorem State.appendRegistry_level (s : State) (handle : Nat) : (s.appendRegistry handle).level = s.level := rfl
@[simp] theorem State.appendRegistry_size (s : State) (handle : Nat) : (s.appendRegistry handle).size = s.size := rfl
@[simp] theorem State.appendRegistry_pageMode (s : State) (handle : Nat) : (s.appendRegistry handle).pageMode = s.pageMode := rfl
@[simp] theorem State.appendRegistry_frag (s : State) (handle : Nat) : (s.appendRegistry handle).frag = s.frag := rfl
@[simp] theorem State.appendRegistry_frag6Data (s : State) (handle : Nat) : (s.appendRegistry handle).frag6Data = s.frag6Data := rfl
@[simp] theorem State.appendRegistry_frag6Valid (s : State) (handle : Nat) : (s.appendRegistry handle).frag6Valid = s.frag6Valid := rfl
@[simp] theorem State.appendRegistry_correctable (s : State) (handle : Nat) : (s.appendRegistry handle).correctable = s.correctable := rfl
@[simp] theorem State.appendRegistry_nbErrors (s : State) (handle : Nat) : (s.appendRegistry handle).nbErrors = s.nbErrors := rfl
@[simp] theorem State.appendRegistry_errLoc (s : State) (handle : Nat) : (s.appendRegistry handle).errLoc = s.errLoc := rfl
@[simp] theorem State.appendRegistry_poweredUnreset (s : State) (handle : Nat) : (s.appendRegistry handle).poweredUnreset = s.poweredUnreset := rfl
@[simp] theorem State.appendRegistry_resetPending (s : State) (handle : Nat) : (s.appendRegistry handle).resetPending = s.resetPending := rfl
@[simp] theorem State.appendRegistry_job (s : State) (handle : Nat) : (s.appendRegistry handle).job = s.job := rfl
@[simp] theorem State.appendRegistry_fault (s : State) (handle : Nat) : (s.appendRegistry handle).fault = s.fault := rfl
@[simp] theorem State.appendRegistry_refused (s : State) (handle : Nat) : (s.appendRegistry handle).refused = s.refused := rfl
@[simp] theorem State.appendRegistry_instances (s : State) (handle : Nat) : (s.appendRegistry handle).instances = s.instances := rfl
@[simp] theorem State.appendRegistry_registry (s : State) (handle : Nat) : (s.appendRegistry handle).registry = s.registry ++ [handle] := rfl
@[simp] theorem State.appendRegistry_callers (s : State) (handle : Nat) : (s.appendRegistry handle).callers = s.callers := rfl
@[simp] theorem State.appendRegistry_turns (s : State) (handle : Nat) : (s.appendRegistry handle).turns = s.turns := rfl
@[simp] theorem State.appendRegistry_freeTurns (s : State) (handle : Nat) : (s.appendRegistry handle).freeTurns = s.freeTurns := rfl
@[simp] theorem State.appendRegistry_draws (s : State) (handle : Nat) : (s.appendRegistry handle).draws = s.draws := rfl
@[simp] theorem State.appendRegistry_readData (s : State) (handle : Nat) : (s.appendRegistry handle).readData = s.readData := rfl

/-! ### corruptEngine and markFault: what they leave alone -/

@[simp] theorem State.corruptEngine_poweredUnreset (s : State) : s.corruptEngine.poweredUnreset = s.poweredUnreset := rfl
@[simp] theorem State.corruptEngine_fault (s : State) : s.corruptEngine.fault = s.fault := rfl
@[simp] theorem State.corruptEngine_refused (s : State) : s.corruptEngine.refused = s.refused := rfl
@[simp] theorem State.corruptEngine_instances (s : State) : s.corruptEngine.instances = s.instances := rfl
@[simp] theorem State.corruptEngine_registry (s : State) : s.corruptEngine.registry = s.registry := rfl
@[simp] theorem State.corruptEngine_callers (s : State) : s.corruptEngine.callers = s.callers := rfl
@[simp] theorem State.corruptEngine_turns (s : State) : s.corruptEngine.turns = s.turns := rfl
@[simp] theorem State.corruptEngine_freeTurns (s : State) : s.corruptEngine.freeTurns = s.freeTurns := rfl
@[simp] theorem State.corruptEngine_readData (s : State) : s.corruptEngine.readData = s.readData := rfl

@[simp] theorem State.markFault_poweredUnreset (s : State) (r : Fault) : (s.markFault r).poweredUnreset = s.poweredUnreset := by
  cases r <;> rfl
@[simp] theorem State.markFault_fault (s : State) (r : Fault) : (s.markFault r).fault = some r := by
  cases r <;> rfl
@[simp] theorem State.markFault_refused (s : State) (r : Fault) : (s.markFault r).refused = s.refused := by
  cases r <;> rfl
@[simp] theorem State.markFault_instances (s : State) (r : Fault) : (s.markFault r).instances = s.instances := by
  cases r <;> rfl
@[simp] theorem State.markFault_registry (s : State) (r : Fault) : (s.markFault r).registry = s.registry := by
  cases r <;> rfl
@[simp] theorem State.markFault_callers (s : State) (r : Fault) : (s.markFault r).callers = s.callers := by
  cases r <;> rfl
@[simp] theorem State.markFault_turns (s : State) (r : Fault) : (s.markFault r).turns = s.turns := by
  cases r <;> rfl
@[simp] theorem State.markFault_freeTurns (s : State) (r : Fault) : (s.markFault r).freeTurns = s.freeTurns := by
  cases r <;> rfl
@[simp] theorem State.markFault_readData (s : State) (r : Fault) : (s.markFault r).readData = s.readData := by
  cases r <;> rfl

/-! ### Callers -/

@[simp] theorem Caller.give_phase (c : Caller) (r : Return) : (c.give r).phase = c.phase := rfl
@[simp] theorem Caller.give_synBuffer (c : Caller) (r : Return) : (c.give r).synBuffer = c.synBuffer := rfl
@[simp] theorem Caller.give_locs (c : Caller) (r : Return) : (c.give r).locs = c.locs := rfl
@[simp] theorem Caller.give_latch (c : Caller) (r : Return) : (c.give r).latch = c.latch := rfl
@[simp] theorem Caller.give_code (c : Caller) (r : Return) : (c.give r).code = c.code := rfl
@[simp] theorem Caller.give_commands (c : Caller) (r : Return) : (c.give r).commands = c.commands := rfl
@[simp] theorem Caller.give_returned (c : Caller) (r : Return) : (c.give r).returned = r :: c.returned := rfl
@[simp] theorem Caller.abandon_code (c : Caller) (r : Return) : (c.abandon r).code = [] := rfl
@[simp] theorem Caller.abandon_commands (c : Caller) (r : Return) : (c.abandon r).commands = c.commands := rfl
@[simp] theorem Caller.abandon_phase (c : Caller) (r : Return) : (c.abandon r).phase = c.phase := rfl
@[simp] theorem Caller.abandon_returned (c : Caller) (r : Return) : (c.abandon r).returned = r :: c.returned := rfl

end Sys2Proof.Machine
end

