-- ==== Sys2Proof/Laws/Ops.lean ====
section
/-! SUPPORT. One lemma per shared operation that says once everything it can answer. -/

namespace Sys2Proof.Machine

open Sys2Proof

/-- `afterReset` answers what the rest answers exactly when the engine is past its resets. -/
theorem afterReset_eq_next (s t : State) (r : Result) :
    afterReset s r = .next t ↔ s.poweredUnreset = false ∧ s.resetPending = false ∧ r = .next t := by
  unfold afterReset
  split
  · simp_all
  · split <;> simp_all

/-- Everything `afterReset` can answer. -/
theorem afterReset_cases (s : State) (r : Result) :
    (s.poweredUnreset = true ∧ afterReset s r = .refused .beforeReset) ∨
    (s.poweredUnreset = false ∧ s.resetPending = true ∧ afterReset s r = .refused .duringReset) ∨
    (s.poweredUnreset = false ∧ s.resetPending = false ∧ afterReset s r = r) := by
  unfold afterReset
  cases s.poweredUnreset <;> cases s.resetPending <;> simp

theorem afterReset_running (s : State) (r : Result) (hp : s.poweredUnreset = false) (hr : s.resetPending = false) :
    afterReset s r = r := by
  simp [afterReset, hp, hr]

/-- `unlessResetting` answers what the rest answers exactly when no reset is pending. -/
theorem unlessResetting_eq_next (s t : State) (r : Result) :
    unlessResetting s r = .next t ↔ s.resetPending = false ∧ r = .next t := by
  unfold unlessResetting
  split <;> simp_all

theorem unlessResetting_running (s : State) (r : Result) (hr : s.resetPending = false) :
    unlessResetting s r = r := by
  simp [unlessResetting, hr]

/-- `whenNoJob` answers what the rest answers exactly when no job is present. -/
theorem whenNoJob_eq_next (s t : State) (r : Result) :
    whenNoJob s r = .next t ↔ s.job = none ∧ r = .next t := by
  unfold whenNoJob
  cases s.job <;> simp

theorem whenNoJob_none (s : State) (r : Result) (h : s.job = none) : whenNoJob s r = r := by
  simp [whenNoJob, h]

theorem whenNoJob_some (s : State) (r : Result) (j : Job) (h : s.job = some j) :
    whenNoJob s r = .fault .overlappingUse := by
  simp [whenNoJob, h]

/-- `whenTriggerable` answers what the rest answers exactly in continuous mode at a strength's code. -/
theorem whenTriggerable_eq_next (s t : State) (r : Result) :
    whenTriggerable s r = .next t ↔ (strengthOf s.level).isSome = true ∧ s.pageMode = 0 ∧ r = .next t := by
  unfold whenTriggerable
  cases strengthOf s.level <;> by_cases h : s.pageMode = 0#32 <;> simp [h]

theorem whenTriggerable_ok (s : State) (r : Result) (hl : (strengthOf s.level).isSome = true)
    (hm : s.pageMode = 0) : whenTriggerable s r = r := by
  unfold whenTriggerable
  cases h : strengthOf s.level <;> simp_all

/-- A read changes the read port and the count of free values and nothing else. -/
theorem State.answerNamed_eq (s : State) (f : Word → Word) :
    s.answerNamed f = { s with readData := (s.answerNamed f).readData, draws := (s.answerNamed f).draws } := rfl

theorem State.answer_eq (s : State) (w : Word) :
    s.answer w = { s with readData := (s.answer w).readData, draws := (s.answer w).draws } := rfl

/-- The engine's reset agent moves only while a reset is pending (41_engine_steps.md R140). -/
theorem engineResetStep_cases (s : State) :
    (s.resetPending = true ∧ engineResetStep s = s.completeReset) ∨
    (s.resetPending = false ∧ engineResetStep s = s) := by
  unfold engineResetStep
  cases s.resetPending <;> simp

/-- The engine's decode agent moves only while a job is present (41_engine_steps.md R142). -/
theorem engineDecodeStep_cases (s : State) :
    (∃ j, s.job = some j ∧ engineDecodeStep s = s.publish (locate j.level j.size j.syn)) ∨
    (s.job = none ∧ engineDecodeStep s = s) := by
  unfold engineDecodeStep
  cases s.job <;> simp

/-- A step of a marked machine stops, a step of an unmarked one is its agent's. -/
theorem step_eq_next (s t : State) :
    step s = .next t ↔ s.fault = none ∧ s.refused = none ∧ t = turnStep s := by
  unfold step
  cases s.fault <;> cases s.refused <;> simp [eq_comm]

end Sys2Proof.Machine
end

