-- ==== Sys2Proof/Laws/Exec.lean ====
section
/-! SUPPORT. What a bus transaction can do, said once: the shape of every next state `exec` answers. -/

namespace Sys2Proof.Machine

open Sys2Proof

/-- Everything a transaction that completes can have done to the machine. -/
inductive TransactionEffect (s : State) : State → Prop where
  | answer (w : Word) : TransactionEffect s (s.answer w)
  | answerNamed (f : Word → Word) : TransactionEffect s (s.answerNamed f)
  | startReset (h : s.resetPending = false) (hj : s.job = none) : TransactionEffect s s.startReset
  | storeIdleMode (h : Running s) (v : BitVec 2) : TransactionEffect s (s.storeIdleMode v)
  | acknowledge (h : Running s) (w : Word) : TransactionEffect s (s.acknowledge w)
  | storeConfig (h : Running s) (hj : s.job = none) (l : LevelCode) (z : SizeField) :
      TransactionEffect s (s.storeConfig l z)
  | storePageMode (h : Running s) (hj : s.job = none) (w : Word) : TransactionEffect s (s.storePageMode w)
  | storeFrag (h : Running s) (hj : s.job = none) (k : Fin 6) (w : Word) : TransactionEffect s (s.storeFrag k w)
  | storeFrag6 (h : Running s) (hj : s.job = none) (v : BitVec 16) : TransactionEffect s (s.storeFrag6 v false)
  | trigger (h : Running s) (hj : s.job = none) (hl : (strengthOf s.level).isSome = true) (hm : s.pageMode = 0)
      (v : BitVec 16) : TransactionEffect s (s.storeFrag6 v true).createJob

theorem readFrag_effect (k : Fin 6) (s t : State) (h : readFrag k s = .next t) : TransactionEffect s t := by
  obtain ⟨-, -, h⟩ := (afterReset_eq_next _ _ _).1 h
  cases h
  exact .answer _

theorem writeFrag_effect (k : Fin 6) (data : Word) (s t : State) (h : writeFrag k data s = .next t) :
    TransactionEffect s t := by
  obtain ⟨hp, hr, h⟩ := (afterReset_eq_next _ _ _).1 h
  obtain ⟨hj, h⟩ := (whenNoJob_eq_next _ _ _).1 h
  cases h
  exact .storeFrag ⟨hp, hr⟩ hj _ _

/-- Every next state of `exec` is one of these effects. -/
theorem exec_effect (i : Instr) (s t : State) (h : exec i s = .next t) : TransactionEffect s t := by
  cases i with
  | rdSysconfig =>
    obtain ⟨-, h⟩ := (unlessResetting_eq_next _ _ _).1 h
    cases h; exact .answerNamed _
  | wrSysconfigSrst data =>
    obtain ⟨hr, h⟩ := (unlessResetting_eq_next _ _ _).1 h
    obtain ⟨hj, h⟩ := (whenNoJob_eq_next _ _ _).1 h
    cases h; exact .startReset hr hj
  | wrSysconfig data =>
    obtain ⟨hp, hr, h⟩ := (afterReset_eq_next _ _ _).1 h
    cases h; exact .storeIdleMode ⟨hp, hr⟩ _
  | rdSysstatus =>
    have h : Host.Outcome.next _ = Host.Outcome.next t := h
    cases h; exact .answerNamed _
  | wrSysstatus data =>
    obtain ⟨-, -, h⟩ := (afterReset_eq_next _ _ _).1 h
    cases h
  | rdIrqstatus =>
    obtain ⟨-, -, h⟩ := (afterReset_eq_next _ _ _).1 h
    cases h; exact .answerNamed _
  | wrIrqstatus data =>
    obtain ⟨hp, hr, h⟩ := (afterReset_eq_next _ _ _).1 h
    cases h; exact .acknowledge ⟨hp, hr⟩ _
  | rdLocationConfig =>
    obtain ⟨-, -, h⟩ := (afterReset_eq_next _ _ _).1 h
    cases h; exact .answerNamed _
  | wrLocationConfig data =>
    obtain ⟨hp, hr, h⟩ := (afterReset_eq_next _ _ _).1 h
    obtain ⟨hj, h⟩ := (whenNoJob_eq_next _ _ _).1 h
    cases h; exact .storeConfig ⟨hp, hr⟩ hj _ _
  | rdPageCtrl =>
    obtain ⟨-, -, h⟩ := (afterReset_eq_next _ _ _).1 h
    cases h; exact .answer _
  | wrPageCtrl data =>
    obtain ⟨hp, hr, h⟩ := (afterReset_eq_next _ _ _).1 h
    obtain ⟨hj, h⟩ := (whenNoJob_eq_next _ _ _).1 h
    cases h; exact .storePageMode ⟨hp, hr⟩ hj _
  | rdSf0 => exact readFrag_effect _ _ _ h
  | rdSf1 => exact readFrag_effect _ _ _ h
  | rdSf2 => exact readFrag_effect _ _ _ h
  | rdSf3 => exact readFrag_effect _ _ _ h
  | rdSf4 => exact readFrag_effect _ _ _ h
  | rdSf5 => exact readFrag_effect _ _ _ h
  | rdSf6 =>
    obtain ⟨-, -, h⟩ := (afterReset_eq_next _ _ _).1 h
    cases h; exact .answerNamed _
  | wrSf0 data => exact writeFrag_effect _ _ _ _ h
  | wrSf1 data => exact writeFrag_effect _ _ _ _ h
  | wrSf2 data => exact writeFrag_effect _ _ _ _ h
  | wrSf3 data => exact writeFrag_effect _ _ _ _ h
  | wrSf4 data => exact writeFrag_effect _ _ _ _ h
  | wrSf5 data => exact writeFrag_effect _ _ _ _ h
  | wrSf6 data =>
    obtain ⟨hp, hr, h⟩ := (afterReset_eq_next _ _ _).1 h
    obtain ⟨hj, h⟩ := (whenNoJob_eq_next _ _ _).1 h
    cases h; exact .storeFrag6 ⟨hp, hr⟩ hj _
  | wrSf6Trig data =>
    obtain ⟨hp, hr, h⟩ := (afterReset_eq_next _ _ _).1 h
    obtain ⟨hj, h⟩ := (whenNoJob_eq_next _ _ _).1 h
    obtain ⟨hl, hm, h⟩ := (whenTriggerable_eq_next _ _ _).1 h
    cases h; exact .trigger ⟨hp, hr⟩ hj hl hm _
  | rdLocationStatus =>
    obtain ⟨-, -, h⟩ := (afterReset_eq_next _ _ _).1 h
    cases h; exact .answerNamed _
  | wrLocationStatus data =>
    obtain ⟨-, -, h⟩ := (afterReset_eq_next _ _ _).1 h
    cases h
  | rdErrloc k =>
    obtain ⟨-, -, h⟩ := (afterReset_eq_next _ _ _).1 h
    cases h; exact .answerNamed _
  | wrErrloc k data =>
    obtain ⟨-, -, h⟩ := (afterReset_eq_next _ _ _).1 h
    cases h

/-- A transaction touches nothing of the host software's state, the marks or the schedule. -/
theorem TransactionEffect.softwareUnchanged {s t : State} (h : TransactionEffect s t) : SoftwareUnchanged s t := by
  cases h <;> simp [SoftwareUnchanged]

end Sys2Proof.Machine
end

