-- ==== Sys2Proof/Laws/Callers.lean ====
section
/-! SUPPORT. What a caller's turn and a whole step can do, said once. -/

namespace Sys2Proof.Machine

open Sys2Proof

/-- Everything one turn of caller `k` can have done to the machine. -/
inductive CallerEffect (k : Nat) (s : State) : State → Prop where
  | nothing : CallerEffect k s s
  | software (c : Caller) : CallerEffect k s (s.setCaller k c)
  | probed (inst : Instance) (c : Caller) : CallerEffect k s ((s.addInstance inst).setCaller k c)
  | stored (handle : Nat) (level : Strength) (c : Caller) (h : handle < s.instances.length) :
      CallerEffect k s ((s.storeLevel handle level).setCaller k c)
  | registered (handle : Nat) (c : Caller) (h : handle < s.instances.length) :
      CallerEffect k s ((s.appendRegistry handle).setCaller k c)
  | transaction (i : Instr) (t : State) (c : Caller) (h : exec i s = .next t) : CallerEffect k s (t.setCaller k c)
  | lateFault (i : Instr) (t : State) (r : Fault) (h : exec i s = .next t) : CallerEffect k s (t.markFault r)
  | faulted (r : Fault) : CallerEffect k s (s.markFault r)
  | refused (r : Refusal) : CallerEffect k s (s.markRefused r)

theorem issue_effect (k : Nat) (c : Caller) (i : Instr) (after : Word → Caller → Except Fault Caller) (s : State) :
    CallerEffect k s (issue k c i after s) := by
  unfold issue
  split
  · split
    · exact .transaction i _ _ ‹_›
    · exact .lateFault i _ _ ‹_›
  · exact .faulted _
  · exact .refused _

theorem runRequest_effect (k : Nat) (c : Caller) (r : BusRequest) (s : State) :
    CallerEffect k s (runRequest k c r s) := by
  unfold runRequest
  split
  · exact .refused _
  · exact issue_effect _ _ _ _ _

/-- A line that needs an instance is refused, or does what it does with one that exists. -/
theorem withInstance_effect (k handle : Nat) (s : State) (f : Instance → State)
    (h : handle < s.instances.length → ∀ inst, CallerEffect k s (f inst)) :
    CallerEffect k s (withInstance handle s f) := by
  unfold withInstance
  split
  · exact .refused _
  · next hi => exact h (List.getElem?_eq_some_iff.1 hi).1 _

theorem checkPayload_effect (k : Nat) (c : Caller) (handle : Nat) (src : Payload) (s : State) :
    CallerEffect k s (checkPayload k c handle src s) := by
  refine withInstance_effect _ _ _ _ fun _ inst => ?_
  split
  · exact .refused _
  · split
    · exact .refused _
    · split
      · exact .software _
      · exact .refused _

theorem lookup_effect (k : Nat) (c : Caller) (level : Strength) (s : State) :
    CallerEffect k s (lookup k c level s) := by
  unfold lookup
  split
  · exact .software _
  · exact withInstance_effect _ _ _ _ fun h _ => .stored _ _ _ h

theorem runSoftware_effect (k : Nat) (l : Line) (c : Caller) (s : State) :
    CallerEffect k s (runSoftware k l c s) := by
  cases l with
  | storeLevel handle level => exact withInstance_effect _ _ _ _ fun h _ => .stored _ _ _ h
  | checkPayload handle src => exact checkPayload_effect _ _ _ _ _
  | appendInstance handle => exact withInstance_effect _ _ _ _ fun h _ => .registered _ _ h
  | configureStored handle => exact withInstance_effect _ _ _ _ fun _ _ => .software _
  | lookup level => exact lookup_effect _ _ _ _
  | _ => exact .software _

theorem runLine_effect (k : Nat) (l : Line) (c : Caller) (s : State) : CallerEffect k s (runLine k l c s) := by
  unfold runLine
  split
  · exact issue_effect _ _ _ _ _
  · exact runSoftware_effect _ _ _ _

/-- Every turn of a caller is one of these effects. -/
theorem callerStep_effect (k : Nat) (s : State) : CallerEffect k s (callerStep k s) := by
  unfold callerStep
  split
  · exact .nothing
  · split
    · exact runLine_effect _ _ _ _
    · split
      · exact .nothing
      · exact runRequest_effect _ _ _ _
      · exact .software _
      · exact .probed _ _

/-- The turn of a transaction that completes: one step gives its state, its caller after it. -/
theorem issue_next (k : Nat) (c c' : Caller) (i : Instr) (after : Word → Caller → Except Fault Caller) (s t : State)
    (h : exec i s = .next t) (ha : after t.readData c = .ok c') : issue k c i after s = t.setCaller k c' := by
  simp only [issue, h, ha]

/-- A step of an unmarked machine is its agent's turn. -/
theorem step_turn (s : State) (h : Unmarked s) : step s = .next (turnStep s) :=
  (step_eq_next _ _).2 ⟨h.1, h.2, rfl⟩

/-- A written turn: its agent moves in the state in which the turn is used up. -/
theorem turnStep_cons (s : State) (a : Agent) (ts : List Agent) (h : s.turns = a :: ts) :
    turnStep s = agentStep a (s.setTurns ts) := by
  simp only [turnStep, turnOf, turnAt, afterTurn, h, List.getD_cons_zero]

/-- A turn, written or free, uses itself up and is then its agent's. -/
theorem turnStep_cases (s : State) :
    ∃ u, turnStep s = agentStep (turnOf s) u ∧ (u = { s with turns := u.turns, freeTurns := u.freeTurns }) := by
  refine ⟨afterTurn s, rfl, ?_⟩
  unfold afterTurn
  split <;> rfl

/-- Using up a turn brings every later one nearer by one: none is passed over. -/
theorem turnAt_afterTurn (s : State) (n : Nat) : turnAt (afterTurn s) n = turnAt s (n + 1) := by
  unfold turnAt afterTurn
  split
  · next h => simp [h, Nat.add_sub_add_right]
  · next h => simp [h]; congr 1; omega

/-- On a fair schedule both agents of the engine have a turn ahead of them (41_engine_steps.md R143). -/
theorem exists_turn_of_fair (h : FairTurns) (s : State) :
    (∃ n, turnAt s n = .engineReset) ∧ (∃ n, turnAt s n = .engineDecode) := by
  have key : ∀ m, s.freeTurns ≤ m → turnAt s (s.turns.length + (m - s.freeTurns)) = Config.freeTurn m := by
    intro m hm
    unfold turnAt
    rw [List.getD_eq_default _ _ (by omega)]
    congr 1; omega
  obtain ⟨⟨m, hm, hr⟩, ⟨n, hn, hd⟩⟩ := h s.freeTurns
  exact ⟨⟨_, (key m hm).trans hr⟩, ⟨_, (key n hn).trans hd⟩⟩

end Sys2Proof.Machine
end

