-- ==== Sys2Proof/Laws/Decode.lean ====
section
/-! SUPPORT. The fields of a packed transaction, the slot offsets, and masking a packed transaction: what decoding
and encoding proofs cite. -/

namespace Sys2Proof

@[simp] theorem isWrite_packTransaction (w : BitVec 1) (off : Offset) (data : Word) :
    (packTransaction w off data).isWrite = w.getLsbD 0 := by
  simp only [Transaction.isWrite, packTransaction, BitVec.getLsbD_append]
  simp

@[simp] theorem offset_packTransaction (w : BitVec 1) (off : Offset) (data : Word) :
    (packTransaction w off data).offset = off := by
  apply BitVec.eq_of_getLsbD_eq
  intro i hi
  simp only [Transaction.offset, packTransaction, BitVec.getLsbD_extractLsb', BitVec.getLsbD_append]
  have h1 : ¬ 32 + i < 32 := by omega
  have h2 : 32 + i - 32 = i := by omega
  simp [hi, h1, h2]

@[simp] theorem data_packTransaction (w : BitVec 1) (off : Offset) (data : Word) :
    (packTransaction w off data).data = data := by
  apply BitVec.eq_of_getLsbD_eq
  intro i hi
  simp only [Transaction.data, packTransaction, BitVec.getLsbD_extractLsb', BitVec.getLsbD_append]
  simp [hi]

@[simp] theorem slot_slotOffset (i : BitVec 4) : (slotOffset i).slot = i := by
  revert i; decide

@[simp] theorem isErrloc_slotOffset (i : BitVec 4) : (slotOffset i).isErrloc = true := by
  revert i; decide

@[simp] theorem misaligned_slotOffset (i : BitVec 4) : (slotOffset i).misaligned = false := by
  revert i; decide

/-- An offset in the error-location family and a multiple of 4 is the offset of its slot. -/
theorem slotOffset_slot (off : Offset) (h : off.isErrloc = true) (ha : off.misaligned = false) :
    slotOffset off.slot = off := by
  revert off; decide +revert

/-- Decoding a packed write is decoding its offset and data. -/
theorem decode_pack_write (off : Offset) (data : Word) (ha : off.misaligned = false) :
    decode (packTransaction 1 off data) = decodeWrite off data := by
  simp [decode, ha]

/-- Decoding a packed read is decoding its offset. -/
theorem decode_pack_read (off : Offset) (data : Word) (ha : off.misaligned = false) :
    decode (packTransaction 0 off data) = decodeRead off := by
  simp [decode, ha]

/-- The slot offsets are none of the thirteen other mapped offsets. -/
theorem slotOffset_ne (i : BitVec 4) (off : Offset) (h : off.isErrloc = false) : slotOffset i ≠ off := by
  intro e
  rw [← e, isErrloc_slotOffset] at h
  cases h

/-- Masking a packed transaction masks its three fields. -/
theorem packTransaction_and (w w' : BitVec 1) (off off' : Offset) (data data' : Word) :
    packTransaction w off data &&& packTransaction w' off' data' =
      packTransaction (w &&& w') (off &&& off') (data &&& data') :=
  (BitVec.and_append (x₁ := w ++ off) (x₂ := w' ++ off')).trans
    (congrArg (· ++ (data &&& data')) BitVec.and_append)

/-- A transaction is its three fields packed. -/
theorem packTransaction_fields (t : Transaction) :
    packTransaction (BitVec.ofBool t.isWrite) t.offset t.data = t := by
  apply BitVec.eq_of_getLsbD_eq
  intro i hi
  simp only [packTransaction, Transaction.isWrite, Transaction.offset, Transaction.data, BitVec.getLsbD_append,
    BitVec.getLsbD_extractLsb']
  by_cases h1 : i < 32
  · simp [h1]
  · by_cases h2 : i - 32 < 12
    · have : 32 + (i - 32) = i := by omega
      simp [h1, h2, this]
    · have h3 : i = 44 := by omega
      subst h3
      simp

/-- A row of the decoder's table either answers or passes on to the next. -/
theorem ite_ok_iff {c : Prop} [Decidable c] (i j : Instr) (r : Except DecodeError Instr) :
    (if c then .ok j else r) = .ok i ↔ (c ∧ j = i) ∨ (¬ c ∧ r = .ok i) := by
  by_cases h : c
  · rw [if_pos h]; constructor
    · intro e; cases e; exact .inl ⟨h, rfl⟩
    · rintro (⟨-, rfl⟩ | ⟨hn, -⟩)
      · rfl
      · exact absurd h hn
  · rw [if_neg h]; constructor
    · intro e; exact .inr ⟨h, e⟩
    · rintro (⟨hc, -⟩ | ⟨-, e⟩)
      · exact absurd hc h
      · exact e

theorem sysconfigWrite_wf (data : Word) :
    (sysconfigWrite data).wellFormed = true ∧ encode (sysconfigWrite data) = packTransaction 1 0x010 data := by
  unfold sysconfigWrite
  cases h : data.getLsbD 1
  · exact ⟨by simp only [Bool.false_eq_true, if_false, Instr.wellFormed, h, Bool.not_false], rfl⟩
  · exact ⟨h, rfl⟩
theorem fragment6Write_wf (data : Word) :
    (fragment6Write data).wellFormed = true ∧ encode (fragment6Write data) = packTransaction 1 0x418 data := by
  unfold fragment6Write
  cases h : data.getLsbD 16
  · exact ⟨by simp only [Bool.false_eq_true, if_false, Instr.wellFormed, h, Bool.not_false], rfl⟩
  · exact ⟨h, rfl⟩

/-- What a decoded read row is: well-formed, and its word the one decoded but for the ignored data. -/
theorem decodeRead_ok (off : Offset) (i : Instr) (ha : off.misaligned = false) (h : decodeRead off = .ok i) :
    i.wellFormed = true ∧ encode i = packTransaction 0 off 0 := by
  unfold decodeRead at h
  simp only [ite_ok_iff] at h
  iterate 13
    obtain ⟨rfl, rfl⟩ | ⟨-, h⟩ := h
    · exact ⟨rfl, rfl⟩
  obtain ⟨he, rfl⟩ | ⟨-, h⟩ := h
  · exact ⟨rfl, congrArg (packTransaction 0 · 0) (slotOffset_slot _ he ha)⟩
  · cases h

/-- What a decoded write row is: well-formed, and its word the one decoded. -/
theorem decodeWrite_ok (off : Offset) (data : Word) (i : Instr) (ha : off.misaligned = false)
    (h : decodeWrite off data = .ok i) :
    i.wellFormed = true ∧ encode i = packTransaction 1 off data := by
  unfold decodeWrite at h
  simp only [ite_ok_iff] at h
  obtain ⟨rfl, rfl⟩ | ⟨-, h⟩ := h
  · exact sysconfigWrite_wf _
  iterate 10
    obtain ⟨rfl, rfl⟩ | ⟨-, h⟩ := h
    · exact ⟨rfl, rfl⟩
  obtain ⟨rfl, rfl⟩ | ⟨-, h⟩ := h
  · exact fragment6Write_wf _
  obtain ⟨rfl, rfl⟩ | ⟨-, h⟩ := h
  · exact ⟨rfl, rfl⟩
  obtain ⟨he, rfl⟩ | ⟨-, h⟩ := h
  · exact ⟨rfl, congrArg (packTransaction 1 · data) (slotOffset_slot _ he ha)⟩
  · cases h

/-- Everything a successful decode says: the instruction is well-formed and encodes to the word itself, the data of a
read put to 0. -/
theorem decode_ok (t : Transaction) (i : Instr) (h : decode t = .ok i) :
    i.wellFormed = true ∧
      encode i = packTransaction (BitVec.ofBool t.isWrite) t.offset (if t.isWrite then t.data else 0) := by
  unfold decode at h
  cases ha : t.offset.misaligned
  · rw [ha] at h
    cases hw : t.isWrite
    · rw [hw] at h; exact decodeRead_ok _ _ ha h
    · rw [hw] at h; exact decodeWrite_ok _ _ _ ha h
  · rw [ha] at h; cases h

end Sys2Proof
end

