-- ==== Sys2Proof/Laws/Operands.lean ====
section
/-! SUPPORT. Strengths, the location function's properties P1 and P3 (41_engine_steps.md R147), slots after a
completion, and the values software assembles. -/

namespace Sys2Proof.Machine

open Sys2Proof

/-! A fact that leans on the codes is shown for each assignment they can have (log 11). -/

/-- The one code that stands for no strength is the reserved one (00_scope.md R9). -/
theorem strengthOf_eq_none (l : LevelCode) : strengthOf l = none ↔ l = Config.codes.reserved := by
  unfold strengthOf Config.codeBch4 Config.codeBch16
  revert l
  cases Config.codes <;> decide

@[simp] theorem strengthOf_codeOf (strength : Strength) : strengthOf (codeOf strength) = some strength := by
  unfold strengthOf codeOf Config.codeBch4 Config.codeBch16
  cases Config.codes <;> cases strength <;> rfl

/-- A code that stands for a strength is that strength's code. -/
theorem codeOf_of_strengthOf (l : LevelCode) (strength : Strength) (h : strengthOf l = some strength) :
    codeOf strength = l := by
  unfold strengthOf Config.codeBch4 Config.codeBch16 at h
  unfold codeOf Config.codeBch4 Config.codeBch16
  revert l
  cases Config.codes <;> cases strength <;> decide

theorem maxLocations_le (l : LevelCode) : maxLocations l ≤ 16 := by
  unfold maxLocations
  cases strengthOf l with
  | none => exact Nat.le_refl _
  | some strength => cases strength <;> decide

/-- Property P1 (41_engine_steps.md R147). -/
theorem locate_length_le (l : LevelCode) (size : SizeField) (syn : Syndrome) (locs : List Location)
    (h : locate l size syn = .correctable locs) : locs.length ≤ maxLocations l := by
  unfold locate at h
  split at h
  · cases h; simp
  · split at h
    · cases h
    · split at h
      · cases h; assumption
      · cases h

/-- Property P3 (41_engine_steps.md R147). -/
theorem locate_cleanSyndrome (strength : Strength) (size : SizeField) :
    locate (codeOf strength) size (Config.cleanSyndrome (codeOf strength) size) = .correctable [] := by
  simp [locate]

/-- A slot below the number of locations holds its location. -/
theorem slotsOf_getElem (locs : List Location) (n : Nat) (i : Fin 16) (h : i.val < locs.length) :
    (slotsOf locs n)[i] = locs[i.val] := by
  simp [slotsOf, List.getD_eq_getElem?_getD, h]

/-- A slot at or beyond it holds a free value. -/
theorem slotsOf_getElem_of_le (locs : List Location) (n : Nat) (i : Fin 16) (h : locs.length ≤ i.val) :
    (slotsOf locs n)[i] = Config.draw 13 (n + i.val) := by
  simp [slotsOf, List.getD_eq_getElem?_getD, List.getElem?_eq_none h]

/-- The buffer of a 13-byte payload starts with its bytes in reverse (30_encoding.md R80, R81). -/
theorem padded_rotate_getElem (src : Bch8Payload) (i : Nat) (h : i < 13) :
    (padded (rotate src.toList))[i] = src[12 - i] := by
  simp [padded, rotate, List.getD_eq_getElem?_getD, h]

/-- The rest of the buffer is zero. -/
theorem padded_rotate_getElem_of_le (src : Bch8Payload) (i : Nat) (h : 13 ≤ i) (hi : i < 28) :
    (padded (rotate src.toList))[i] = 0 := by
  simp [padded, rotate, List.getD_eq_getElem?_getD, h]

@[simp] theorem softResetValue_bit (v : Word) : (softResetValue v).getLsbD 1 = true := by
  simp [softResetValue]

@[simp] theorem triggerValue_bit (v : Word) : (triggerValue v).getLsbD 16 = true := by
  simp [triggerValue]

/-- The smart-idle value keeps the soft-reset bit as it was read (30_encoding.md R76). -/
@[simp] theorem smartIdleValue_bit (v : Word) : (smartIdleValue v).getLsbD 1 = v.getLsbD 1 := by
  simp [smartIdleValue]

@[simp] theorem sysconfigWrite_softReset (v : Word) :
    sysconfigWrite (softResetValue v) = .wrSysconfigSrst (softResetValue v) := by
  simp [sysconfigWrite]

@[simp] theorem fragment6Write_trigger (v : Word) :
    fragment6Write (triggerValue v) = .wrSf6Trig (triggerValue v) := by
  simp [fragment6Write]

/-- Every two-bit code is read back from the word `configure` writes. -/
theorem levelOf_configWord (l : LevelCode) :
    levelOf (l.setWidth 32 ||| (bufSize.setWidth 32 <<< 16)) = l := by
  revert l; decide

theorem bufferSizeOf_configWord (l : LevelCode) :
    bufferSizeOf (l.setWidth 32 ||| (bufSize.setWidth 32 <<< 16)) = bufSize := by
  revert l; decide

@[simp] theorem levelOf_configValue (strength : Strength) : levelOf (configValue strength) = codeOf strength :=
  levelOf_configWord _

@[simp] theorem bufferSizeOf_configValue (strength : Strength) : bufferSizeOf (configValue strength) = bufSize :=
  bufferSizeOf_configWord _

end Sys2Proof.Machine
end

