-- ==== Sys2Proof/Laws/PerInstr.lean ====
section
/-! SUPPORT. The family RowEncoding: every well-formed transaction's word is matched by its own row of
spec/opcode_table.json (30_encoding.md R82: "a transaction t matches a row iff (t & mask) = match"). -/

namespace Sys2Proof.Laws.RowEncoding

open Sys2Proof

/-- The instruction's word under its row's mask is its row's match value. -/
def Statement (i : Instr) : Prop :=
  i.wellFormed = true → encode i &&& rowMask i = rowMatch i

/-- A mask of `W : OFF` and of the data bits `m` keeps those. -/
theorem mask_key (w : BitVec 1) (off : Offset) (data m : Word) (mask : Transaction)
    (hm : mask = packTransaction 1 0xFFF m) :
    packTransaction w off data &&& mask = packTransaction w off (data &&& m) := by
  have h1 : w &&& 1 = w := by revert w; decide
  have h2 : off &&& 0xFFF = off := BitVec.and_allOnes
  rw [hm, packTransaction_and, h1, h2]

/-- Masking one data bit. -/
theorem data_and_bit (data : Word) (k : Nat) :
    data &&& BitVec.twoPow 32 k = bif data.getLsbD k then BitVec.twoPow 32 k else 0 := by
  rw [BitVec.and_twoPow]
  cases data.getLsbD k <;> rfl

/-- A row that masks `W : OFF` only. -/
theorem plain_row (w : BitVec 1) (off : Offset) (data : Word) :
    packTransaction w off data &&& 0x1FFF00000000#45 = packTransaction w off 0 := by
  rw [mask_key w off data 0#32 _ (by decide), BitVec.and_zero]
  rfl

/-- A row of the error-location family, whose mask leaves the slot index free. -/
theorem slot_row (w : BitVec 1) (i : BitVec 4) (data : Word) :
    packTransaction w (slotOffset i) data &&& 0x1FC300000000#45 = packTransaction w 0x880 0 := by
  have hm : 0x1FC300000000#45 = packTransaction 1 0xFC3 0 := by decide
  have h1 : w &&& 1 = w := by revert w; decide
  have h2 : slotOffset i &&& 0xFC3 = 0x880 := by revert i; decide
  have h3 : data &&& 0 = 0 := BitVec.and_zero
  rw [hm, packTransaction_and, h1, h2, h3]

theorem rdSysconfig : Statement (.rdSysconfig) := fun _ => by decide

theorem wrSysconfigSrst (data : Word) : Statement (.wrSysconfigSrst data) := by
  intro h
  have hb : data.getLsbD 1 = true := h
  have := mask_key 1 0x010 data (BitVec.twoPow 32 1) _ (by decide : 0x1FFF00000002#45 = _)
  rw [data_and_bit, hb] at this
  exact this.trans rfl

theorem wrSysconfig (data : Word) : Statement (.wrSysconfig data) := by
  intro h
  have hb : data.getLsbD 1 = false := by simpa [Instr.wellFormed] using h
  have := mask_key 1 0x010 data (BitVec.twoPow 32 1) _ (by decide : 0x1FFF00000002#45 = _)
  rw [data_and_bit, hb] at this
  exact this.trans rfl

theorem rdSysstatus : Statement (.rdSysstatus) := fun _ => by decide

theorem wrSysstatus (data : Word) : Statement (.wrSysstatus data) := fun _ => (plain_row 1 0x014 data).trans rfl

theorem rdIrqstatus : Statement (.rdIrqstatus) := fun _ => by decide

theorem wrIrqstatus (data : Word) : Statement (.wrIrqstatus data) := fun _ => (plain_row 1 0x018 data).trans rfl

theorem rdLocationConfig : Statement (.rdLocationConfig) := fun _ => by decide

theorem wrLocationConfig (data : Word) : Statement (.wrLocationConfig data) := fun _ => (plain_row 1 0x020 data).trans rfl

theorem rdPageCtrl : Statement (.rdPageCtrl) := fun _ => by decide

theorem wrPageCtrl (data : Word) : Statement (.wrPageCtrl data) := fun _ => (plain_row 1 0x080 data).trans rfl

theorem rdSf0 : Statement (.rdSf0) := fun _ => by decide

theorem rdSf1 : Statement (.rdSf1) := fun _ => by decide

theorem rdSf2 : Statement (.rdSf2) := fun _ => by decide

theorem rdSf3 : Statement (.rdSf3) := fun _ => by decide

theorem rdSf4 : Statement (.rdSf4) := fun _ => by decide

theorem rdSf5 : Statement (.rdSf5) := fun _ => by decide

theorem rdSf6 : Statement (.rdSf6) := fun _ => by decide

theorem wrSf0 (data : Word) : Statement (.wrSf0 data) := fun _ => (plain_row 1 0x400 data).trans rfl

theorem wrSf1 (data : Word) : Statement (.wrSf1 data) := fun _ => (plain_row 1 0x404 data).trans rfl

theorem wrSf2 (data : Word) : Statement (.wrSf2 data) := fun _ => (plain_row 1 0x408 data).trans rfl

theorem wrSf3 (data : Word) : Statement (.wrSf3 data) := fun _ => (plain_row 1 0x40c data).trans rfl

theorem wrSf4 (data : Word) : Statement (.wrSf4 data) := fun _ => (plain_row 1 0x410 data).trans rfl

theorem wrSf5 (data : Word) : Statement (.wrSf5 data) := fun _ => (plain_row 1 0x414 data).trans rfl

theorem wrSf6 (data : Word) : Statement (.wrSf6 data) := by
  intro h
  have hb : data.getLsbD 16 = false := by simpa [Instr.wellFormed] using h
  have := mask_key 1 0x418 data (BitVec.twoPow 32 16) _ (by decide : 0x1FFF00010000#45 = _)
  rw [data_and_bit, hb] at this
  exact this.trans rfl

theorem wrSf6Trig (data : Word) : Statement (.wrSf6Trig data) := by
  intro h
  have hb : data.getLsbD 16 = true := h
  have := mask_key 1 0x418 data (BitVec.twoPow 32 16) _ (by decide : 0x1FFF00010000#45 = _)
  rw [data_and_bit, hb] at this
  exact this.trans rfl

theorem rdLocationStatus : Statement (.rdLocationStatus) := fun _ => by decide

theorem wrLocationStatus (data : Word) : Statement (.wrLocationStatus data) := fun _ => (plain_row 1 0x800 data).trans rfl

theorem rdErrloc (k : BitVec 4) : Statement (.rdErrloc k) := fun _ => (slot_row 0 k 0).trans rfl

theorem wrErrloc (k : BitVec 4) (data : Word) : Statement (.wrErrloc k data) := fun _ => (slot_row 1 k data).trans rfl

end Sys2Proof.Laws.RowEncoding
end

