-- ==== Sys2Proof/Laws/Run.lean ====
section
/-! SUPPORT. Runs of several steps, turn by turn: what each kind of turn of a caller gives, and how runs join. -/

namespace Sys2Proof.Machine

open Sys2Proof

/-- `n` steps of the machine (Host/Core.lean `Core.run`), at the machine's own types. -/
abbrev runSteps (n : Nat) (s : State) : Host.Outcome State Fault Refusal := Host.Core.run core n s

/-- The next turn is caller `k`'s, being `c`, on a machine without a mark; `ts` are the turns after it. -/
structure Ready (s : State) (k : Nat) (ts : List Agent) (c : Caller) : Prop where
  unmarked : Unmarked s
  turns : s.turns = .caller k :: ts
  caller : s.callers[k]? = some c

theorem core_run_next (M : Host.Core) (n : Nat) (s t : M.State) (h : M.step s = .next t) :
    M.run (n + 1) s = M.run n t := by
  simp only [Host.Core.run, h]

theorem core_run_add (M : Host.Core) (m n : Nat) (s t : M.State) (h : M.run m s = .next t) :
    M.run (m + n) s = M.run n t := by
  induction m generalizing s with
  | zero => cases h; rw [Nat.zero_add]
  | succ m ih =>
    rw [Nat.succ_add]
    cases hs : M.step s with
    | next s' =>
      rw [core_run_next M _ s s' hs] at *
      exact ih s' h
    | fault r => simp [Host.Core.run, hs] at h
    | refused r => simp [Host.Core.run, hs] at h

/-- Runs join. -/
theorem runSteps_add (m n : Nat) (s t : State) (h : runSteps m s = .next t) :
    runSteps (m + n) s = runSteps n t :=
  core_run_add core m n s t h

/-- A run on a written schedule goes on after the first agent's turn. -/
theorem runSteps_turn (n : Nat) (s : State) (a : Agent) (ts : List Agent) (h : s.turns = a :: ts)
    (hu : Unmarked s) : runSteps (n + 1) s = runSteps n (agentStep a (s.setTurns ts)) :=
  core_run_next core n s _ ((step_turn s hu).trans (congrArg _ (turnStep_cons s a ts h)))

variable {s : State} {k : Nat} {ts : List Agent} {c : Caller}

/-- A line whose transaction completes. -/
theorem Ready.run_transaction (h : Ready s k ts c) (n : Nat) {t : State} {l : Line} {rest : List Line} {i : Instr}
    {c' : Caller} (hl : c.code = l :: rest) (ht : transactionOf { c with code := rest } l = some i)
    (he : exec i (s.setTurns ts) = .next t) (ha : afterLine l t.readData { c with code := rest } = .ok c') :
    runSteps (n + 1) s = runSteps n (t.setCaller k c') := by
  have hc : (s.setTurns ts).callers[k]? = some c := h.caller
  rw [runSteps_turn n s _ ts h.turns h.unmarked]
  simp only [agentStep, callerStep, hc, hl, runLine, ht]
  rw [issue_next k _ c' i _ _ t he ha]

/-- A line of software. -/
theorem Ready.run_software (h : Ready s k ts c) (n : Nat) {l : Line} {rest : List Line} (hl : c.code = l :: rest)
    (ht : transactionOf { c with code := rest } l = none) :
    runSteps (n + 1) s = runSteps n (runSoftware k l { c with code := rest } (s.setTurns ts)) := by
  have hc : (s.setTurns ts).callers[k]? = some c := h.caller
  rw [runSteps_turn n s _ ts h.turns h.unmarked]
  simp only [agentStep, callerStep, hc, hl, runLine, ht]

/-- Calling an operation. -/
theorem Ready.run_call (h : Ready s k ts c) (n : Nat) {op : Operation} {rest : List Command} (hl : c.code = [])
    (hm : c.commands = .operation op :: rest) :
    runSteps (n + 1) s =
      runSteps n ((s.setTurns ts).setCaller k { c with commands := rest, code := linesOf op }) := by
  have hc : (s.setTurns ts).callers[k]? = some c := h.caller
  rw [runSteps_turn n s _ ts h.turns h.unmarked]
  simp only [agentStep, callerStep, hc, hl, hm]

/-- The platform's creating an instance. -/
theorem Ready.run_probe (h : Ready s k ts c) (n : Nat) {inst : Instance} {rest : List Command} (hl : c.code = [])
    (hm : c.commands = .probe inst :: rest) :
    runSteps (n + 1) s =
      runSteps n ((s.setTurns ts |>.addInstance inst).setCaller k
        { c with commands := rest, returned := .handle s.instances.length :: c.returned }) := by
  have hc : (s.setTurns ts).callers[k]? = some c := h.caller
  rw [runSteps_turn n s _ ts h.turns h.unmarked]
  simp only [agentStep, callerStep, hc, hl, hm, State.setTurns_instances]

/-- A caller with nothing to do. -/
theorem Ready.run_nothing (h : Ready s k ts c) (n : Nat) (hl : c.code = []) (hm : c.commands = []) :
    runSteps (n + 1) s = runSteps n (s.setTurns ts) := by
  have hc : (s.setTurns ts).callers[k]? = some c := h.caller
  rw [runSteps_turn n s _ ts h.turns h.unmarked]
  simp only [agentStep, callerStep, hc, hl, hm]

/-- The caller after its turn is found where it was put. -/
theorem getElem?_set_self_of_some {l : List Caller} {x : Caller} (h : l[k]? = some x) (y : Caller) :
    (l.set k y)[k]? = some y := by
  obtain ⟨hk, -⟩ := List.getElem?_eq_some_iff.1 h
  simp [hk]

end Sys2Proof.Machine
end

