-- ==== Sys2Proof/Tests/Slice0.lean ====
section
/-! SUPPORT. The model's own tests: ill-formed terms, words written out from the spec's encodings, single steps with
results from 95_test_vectors.md, and for every statement with hypotheses a witness that meets them. -/

namespace Sys2Proof.Tests

open Sys2Proof Machine

/-! ## Ill-formed terms -/

theorem test_illformed_srst : (Instr.wrSysconfigSrst 0x10).wellFormed = false := by decide

theorem test_illformed_sysconfig : (Instr.wrSysconfig 0x2).wellFormed = false := by decide

theorem test_illformed_sf6 : (Instr.wrSf6 0x10000).wellFormed = false := by decide

theorem test_illformed_trigger : (Instr.wrSf6Trig 0xFFFF).wellFormed = false := by decide

/-! ## One word per row, from 95_test_vectors.md V5, V10, V11, V23 to V48, V59 and the rows of 30_encoding.md R82 -/

theorem test_decode_rdSysconfig : decode 0x001000000000#45 = .ok (.rdSysconfig) := by rfl

theorem test_decode_wrSysconfigSrst : decode 0x101000000012#45 = .ok (.wrSysconfigSrst 0x12) := by rfl

theorem test_decode_wrSysconfig : decode 0x101000000010#45 = .ok (.wrSysconfig 0x10) := by rfl

theorem test_decode_rdSysstatus : decode 0x001400000000#45 = .ok (.rdSysstatus) := by rfl

theorem test_decode_wrSysstatus : decode 0x101400000001#45 = .ok (.wrSysstatus 1) := by rfl

theorem test_decode_rdIrqstatus : decode 0x001800000000#45 = .ok (.rdIrqstatus) := by rfl

theorem test_decode_wrIrqstatus : decode 0x101800000001#45 = .ok (.wrIrqstatus 1) := by rfl

theorem test_decode_rdLocationConfig : decode 0x002000000000#45 = .ok (.rdLocationConfig) := by rfl

theorem test_decode_wrLocationConfig : decode 0x102007FF0001#45 = .ok (.wrLocationConfig 0x07FF0001) := by rfl

theorem test_decode_rdPageCtrl : decode 0x008000000000#45 = .ok (.rdPageCtrl) := by rfl

theorem test_decode_wrPageCtrl : decode 0x108000000000#45 = .ok (.wrPageCtrl 0) := by rfl

theorem test_decode_rdSf0 : decode 0x040000000000#45 = .ok (.rdSf0) := by rfl

theorem test_decode_rdSf1 : decode 0x040400000000#45 = .ok (.rdSf1) := by rfl

theorem test_decode_rdSf2 : decode 0x040800000000#45 = .ok (.rdSf2) := by rfl

theorem test_decode_rdSf3 : decode 0x040C00000000#45 = .ok (.rdSf3) := by rfl

theorem test_decode_rdSf4 : decode 0x041000000000#45 = .ok (.rdSf4) := by rfl

theorem test_decode_rdSf5 : decode 0x041400000000#45 = .ok (.rdSf5) := by rfl

theorem test_decode_rdSf6 : decode 0x041800000000#45 = .ok (.rdSf6) := by rfl

theorem test_decode_wrSf0 : decode 0x1400090A0B0C#45 = .ok (.wrSf0 0x090A0B0C) := by rfl

theorem test_decode_wrSf1 : decode 0x140405060708#45 = .ok (.wrSf1 0x05060708) := by rfl

theorem test_decode_wrSf2 : decode 0x140801020304#45 = .ok (.wrSf2 0x01020304) := by rfl

theorem test_decode_wrSf3 : decode 0x140C000000A1#45 = .ok (.wrSf3 0xA1) := by rfl

theorem test_decode_wrSf4 : decode 0x141000000000#45 = .ok (.wrSf4 0) := by rfl

theorem test_decode_wrSf5 : decode 0x1414CAFEF00D#45 = .ok (.wrSf5 0xCAFEF00D) := by rfl

theorem test_decode_wrSf6 : decode 0x1418FFFEFFFF#45 = .ok (.wrSf6 0xFFFEFFFF) := by rfl

theorem test_decode_wrSf6Trig : decode 0x14180001ABCD#45 = .ok (.wrSf6Trig 0x1ABCD) := by rfl

theorem test_decode_rdLocationStatus : decode 0x080000000000#45 = .ok (.rdLocationStatus) := by rfl

theorem test_decode_wrLocationStatus : decode 0x180000000000#45 = .ok (.wrLocationStatus 0) := by rfl

theorem test_decode_rdErrloc : decode 0x08A400000000#45 = .ok (.rdErrloc 9) := by rfl

theorem test_decode_wrErrloc : decode 0x188400000123#45 = .ok (.wrErrloc 1 0x123) := by rfl

/-- V5: the upper end of the trigger's row. -/
theorem test_decode_all_ones : decode 0x1418FFFFFFFF#45 = .ok (.wrSf6Trig 0xFFFFFFFF) := by rfl

/-- V5: the unmapped offsets. -/
theorem test_decode_unmapped :
    ∀ t ∈ [0x001C00000000#45, 0x041C00000000#45, 0x000000000000#45, 0x080400000000#45, 0x084000000000#45,
      0x08C000000000#45, 0x0FFC00000000#45], decode t = .error .unmapped := by
  simp only [List.forall_mem_cons, List.not_mem_nil, false_imp_iff, implies_true, and_true]
  refine ⟨rfl, rfl, rfl, rfl, rfl, rfl, rfl⟩

/-- 20_memory.md R54, R55: alignment is checked before mapping, the width before both. -/
theorem test_decode_misaligned : decode 0x001100000000#45 = .error .misaligned := by rfl

theorem test_decode_narrow :
    decodeRequest { width := .half, bits := 0x001100000000#45 } = .error .width := by rfl

/-! ## Start states of 95_test_vectors.md -/

/-- What a test reads off an outcome: a check of the next state, false where there is none. -/
def holds (r : Result) (p : State → Bool) : Bool :=
  match r with
  | .next t => p t
  | .fault _ => false
  | .refused _ => false

/-- `PWR`. -/
abbrev pwr : State := State.powerOn

/-- `RSTG`. -/
abbrev rstg : State :=
  { State.powerOn with poweredUnreset := false, resetPending := true }

/-- `CFG8`. -/
abbrev cfg8 : State :=
  { State.reset with idleMode := 0b10, level := 1, size := 0x7FF }

/-- The job of payload A (V10). -/
abbrev jobA : Job :=
  { level := 1, size := 0x7FF, syn := 0x000102030405060708090A0B0C }

/-- `BUSY`. -/
abbrev busy : State :=
  { cfg8 with
    frag := #v[0x090A0B0C, 0x05060708, 0x01020304, 0, 0, 0]
    frag6Valid := true
    job := some jobA }

/-- `FIN`, its free values 0. -/
abbrev fin : State :=
  { cfg8 with
    frag := #v[0x090A0B0C, 0x05060708, 0x01020304, 0, 0, 0]
    done0 := true
    correctable := true
    nbErrors := 2
    errLoc := #v[5, 100, 0, 0, 0, 0, 0, 0, 0, 0, 0, 0, 0, 0, 0, 0] }

/-- `BUSY` with a job whose syndrome is the clean one, so that the verdict is known (41_engine_steps.md R147 P3). -/
abbrev busyClean : State :=
  { busy with job := some { jobA with syn := Config.cleanSyndrome (codeOf .bch8) 0x7FF } }

/-- `CFG8` with what the reads V44 to V46 read back. -/
abbrev loaded : State :=
  { cfg8 with
    pageMode := 1
    frag := #v[0xDEADBEEF, 1, 2, 3, 4, 0xCAFEF00D]
    frag6Data := 0xABCD }

/-! ## Single steps -/

/-- V20. -/
theorem test_rdSysconfig_before_reset : holds (exec .rdSysconfig pwr) (fun t => t.poweredUnreset) = true := by rfl

/-- V31. -/
theorem test_rdSysconfig_idleMode :
    ∃ t, exec .rdSysconfig cfg8 = .next t ∧ getField t.readData 3 2 = 0b10#2 ∧ getField t.readData 1 1 = 0#1 :=
  ⟨_, rfl, getField_setField _ _ _ (by decide), by
    show getField (setField (setField _ 1 0#1) 3 0b10#2) 1 1 = 0#1
    rw [getField_setField_disjoint _ 3 1 1 _ (by decide) (by decide), getField_setField _ _ _ (by decide)]⟩

/-- V24. -/
theorem test_wrSysconfigSrst_before_reset : holds (exec (.wrSysconfigSrst 0x2) pwr)
    (fun t => t.resetPending && !t.poweredUnreset && !t.resetDone) = true := by decide

/-- V53. -/
theorem test_wrSysconfigSrst_busy : exec (.wrSysconfigSrst 0x2) busy = .fault .overlappingUse := by rfl

/-- V33. -/
theorem test_wrSysconfig_reserved_bits : holds (exec (.wrSysconfig 0xFFFFFFFD) cfg8)
    (fun t => t.idleMode == 0b11 && !t.resetPending) = true := by decide

/-- V56. -/
theorem test_wrSysconfig_busy : holds (exec (.wrSysconfig 0x10) busy)
    (fun t => t.idleMode == 0b10 && t.job == some jobA) = true := by decide

/-- V27. -/
theorem test_rdSysstatus_during_reset : ∃ t, exec .rdSysstatus rstg = .next t ∧ t.readData.getLsbD 0 = false :=
  ⟨_, rfl, getLsbD_setField_ofBool _ _ _ (by decide)⟩

/-- V34. -/
theorem test_wrSysstatus : exec (.wrSysstatus 1) cfg8 = .refused .readOnly := by rfl

/-- V39. -/
theorem test_rdIrqstatus_done :
    ∃ t, exec .rdIrqstatus fin = .next t ∧ t.readData.getLsbD 0 = true ∧ t.done0 = true :=
  ⟨_, rfl, getLsbD_setField_ofBool _ _ _ (by decide), rfl⟩

/-- V36. -/
theorem test_wrIrqstatus_zero : holds (exec (.wrIrqstatus 0) fin) (fun t => t.done0) = true := by decide

/-- V38. -/
theorem test_wrIrqstatus_ones : holds (exec (.wrIrqstatus 0xFFFFFFFF) fin) (fun t => !t.done0) = true := by decide

/-- V40, with its level. -/
theorem test_rdLocationConfig : ∃ t, exec .rdLocationConfig { cfg8 with level := 2 } = .next t ∧
    getField t.readData 16 11 = 0x7FF#11 :=
  ⟨_, rfl, getField_setField _ _ _ (by decide)⟩

/-- V22. -/
theorem test_rdLocationConfig_before_reset : exec .rdLocationConfig pwr = .refused .beforeReset := by rfl

/-- V41. -/
theorem test_wrLocationConfig_all_ones : holds (exec (.wrLocationConfig 0xFFFFFFFF) cfg8)
    (fun t => t.level == 3 && t.size == 0x7FF) = true := by decide

/-- V30. -/
theorem test_wrLocationConfig_during_reset :
    exec (.wrLocationConfig 0x07FF0001) rstg = .refused .duringReset := by rfl

/-- V43. -/
theorem test_rdPageCtrl : holds (exec .rdPageCtrl loaded) (fun t => t.readData == 1) = true := by decide

theorem test_wrPageCtrl : holds (exec (.wrPageCtrl 1) cfg8) (fun t => t.pageMode == 1) = true := by decide

/-- V44, and the same of the other fragments (40_bus_register_access.md R111 to R117). -/
theorem test_rdSf0 : holds (exec .rdSf0 loaded) (fun t => t.readData == 0xDEADBEEF) = true := by decide

theorem test_rdSf1 : holds (exec .rdSf1 loaded) (fun t => t.readData == 1) = true := by decide

theorem test_rdSf2 : holds (exec .rdSf2 loaded) (fun t => t.readData == 2) = true := by decide

theorem test_rdSf3 : holds (exec .rdSf3 loaded) (fun t => t.readData == 3) = true := by decide

theorem test_rdSf4 : holds (exec .rdSf4 loaded) (fun t => t.readData == 4) = true := by decide

theorem test_rdSf5 : holds (exec .rdSf5 loaded) (fun t => t.readData == 0xCAFEF00D) = true := by decide

theorem test_wrSf0 : holds (exec (.wrSf0 0xDEADBEEF) cfg8)
    (fun t => t.frag == cfg8.frag.set 0 0xDEADBEEF && t.job == none) = true := by decide

theorem test_wrSf1 : holds (exec (.wrSf1 0xDEADBEEF) cfg8)
    (fun t => t.frag == cfg8.frag.set 1 0xDEADBEEF && t.job == none) = true := by decide

theorem test_wrSf2 : holds (exec (.wrSf2 0xDEADBEEF) cfg8)
    (fun t => t.frag == cfg8.frag.set 2 0xDEADBEEF && t.job == none) = true := by decide

theorem test_wrSf3 : holds (exec (.wrSf3 0xDEADBEEF) cfg8)
    (fun t => t.frag == cfg8.frag.set 3 0xDEADBEEF && t.job == none) = true := by decide

theorem test_wrSf4 : holds (exec (.wrSf4 0xDEADBEEF) cfg8)
    (fun t => t.frag == cfg8.frag.set 4 0xDEADBEEF && t.job == none) = true := by decide

theorem test_wrSf5 : holds (exec (.wrSf5 0xDEADBEEF) cfg8)
    (fun t => t.frag == cfg8.frag.set 5 0xDEADBEEF && t.job == none) = true := by decide

/-- V46. -/
theorem test_rdSf6 : ∃ t, exec .rdSf6 loaded = .next t ∧ t.readData.getLsbD 16 = false :=
  ⟨_, rfl, getLsbD_setField_ofBool _ _ _ (by decide)⟩

/-- V49. -/
theorem test_rdSf6_busy : ∃ t, exec .rdSf6 busy = .next t ∧ t.readData.getLsbD 16 = true :=
  ⟨_, rfl, getLsbD_setField_ofBool _ _ _ (by decide)⟩

/-- V47. -/
theorem test_wrSf6_no_trigger : holds (exec (.wrSf6 0xFFFEFFFF) cfg8)
    (fun t => t.frag6Data == 0xFFFF && !t.frag6Valid && t.job == none) = true := by decide

/-- V55. -/
theorem test_wrSf6_busy : exec (.wrSf6 0) busy = .fault .overlappingUse := by rfl

/-- V48. -/
theorem test_wrSf6Trig_job : holds (exec (.wrSf6Trig 0x0001ABCD) cfg8)
    (fun t => t.frag6Valid && t.job == some { level := 1, size := 0x7FF, syn := 0xABCD#16 ++ 0#192 }) = true := by
  decide

/-- V45: fragment 5 lands in bits 191 to 160. -/
theorem test_wrSf6Trig_fragment5 : holds (exec (.wrSf6Trig 0x00010000) { cfg8 with frag := cfg8.frag.set 5 0xCAFEF00D })
    (fun t => t.job == some { level := 1, size := 0x7FF, syn := 0#16 ++ 0xCAFEF00D#32 ++ 0#160 }) = true := by
  decide

/-- V58. -/
theorem test_rdLocationStatus :
    ∃ t, exec .rdLocationStatus fin = .next t ∧ getField t.readData 0 5 = 2#5 :=
  ⟨_, rfl, getField_setField _ 0 (2#5) (by decide)⟩

/-- V59. -/
theorem test_wrLocationStatus : exec (.wrLocationStatus 0) fin = .refused .readOnly := by rfl

/-- V58. -/
theorem test_rdErrloc_one : ∃ t, exec (.rdErrloc 1) fin = .next t ∧ getField t.readData 0 13 = 100#13 :=
  ⟨_, rfl, (getField_setField _ 0 fin.errLoc[(1#4).toFin] (by decide)).trans (by decide)⟩

/-- V59. -/
theorem test_wrErrloc : exec (.wrErrloc 1 0x123) fin = .refused .readOnly := by rfl

/-- V41: the reserved level. -/
theorem test_trigger_reserved_level :
    exec (.wrSf6Trig 0x00010000) { cfg8 with level := Config.codes.reserved } = .fault .reservedLevel := by
  have h : (strengthOf Config.codes.reserved).isNone = true := by rw [(strengthOf_eq_none _).2 rfl]; rfl
  exact if_pos h

/-- V41 at the spec's default codes: 3 is the reserved one. -/
theorem test_default_codes (h : Config.codes = .bch4At0Bch16At2) :
    codeOf .bch4 = 0 ∧ codeOf .bch8 = 1 ∧ codeOf .bch16 = 2 ∧ strengthOf 3 = none := by
  rw [strengthOf_eq_none, codeOf, codeOf, codeOf, Config.codeBch4, Config.codeBch16, h]; decide

/-- V43: a page mode. -/
theorem test_trigger_page_mode :
    exec (.wrSf6Trig 0x00010000) { cfg8 with pageMode := 1 } = .refused .pageMode := by rfl

/-- V70. -/
theorem test_reset_completion : (engineResetStep { rstg with frag := loaded.frag, done0 := true }).resetDone = true ∧
    (engineResetStep { rstg with frag := loaded.frag, done0 := true }).frag[5] = 0 ∧
    (engineResetStep { rstg with frag := loaded.frag, done0 := true }).done0 = false := by
  refine ⟨rfl, rfl, rfl⟩

/-- V71, the row of an empty list of locations. -/
theorem test_decode_completion_clean : (engineDecodeStep busyClean).correctable = true ∧
    (engineDecodeStep busyClean).nbErrors = 0 ∧ (engineDecodeStep busyClean).done0 = true := by
  have h : locate 1 0x7FF (Config.cleanSyndrome (codeOf .bch8) 0x7FF) = .correctable [] :=
    locate_cleanSyndrome .bch8 0x7FF
  simp only [engineDecodeStep, h]
  exact ⟨rfl, rfl, rfl⟩

/-- V1, V3, V10: the values software assembles. -/
theorem test_software_values : configValue .bch8 = 0x07FF0001 ∧ triggerValue 0x0000ABCD = 0x0001ABCD ∧
    smartIdleValue 0xFFFFFFFD = 0xFFFFFFF5 ∧ softResetValue 0xFFFFFFFD = 0xFFFFFFFF := by decide

/-- V11, the words of payload B. -/
theorem test_payload_words :
    (List.map (bufferWord (padded (rotate [0xA1, 0xB2, 0xC3, 0xD4, 0xE5, 0xF6, 0x07, 0x18, 0x29, 0x3A, 0x4B, 0x5C,
      0x6D]))) [0, 1, 2, 3]) = [0x3A4B5C6D, 0xF6071829, 0xB2C3D4E5, 0x000000A1] := by decide

/-- Payload A (V10). -/
abbrev payloadA : Bch8Payload := #v[0, 1, 2, 3, 4, 5, 6, 7, 8, 9, 0xA, 0xB, 0xC]

/-- V10: the syndrome of payload A. -/
theorem test_payload_syndrome :
    payloadSyndrome payloadA = jobA.syn := by decide

/-- Right after reset, a fetched word is the first thing the machine runs. -/
theorem test_fetch_first :
    holds (step (State.reset.withFetchWord 48 0x102007FF0001)) (fun t => t.level == 1 && t.size == 0x7FF) = true := by
  decide

/-- V75 from an instance the platform creates first: `configure` writes LOCATION_CONFIG in its third turn. -/
theorem test_configure_third_turn :
    holds (Host.Core.run core 4 { State.reset with
      callers := [{ Caller.fresh .configured with
        commands := [.probe { base := 0, level := .bch4 }, .operation (.configure 0 .bch8)] }]
      turns := List.replicate 4 (.caller 0) })
      (fun t => t.level == 1 && t.size == 0x7FF && t.instances == [{ base := 0, level := .bch8 }]) = true := by
  decide

/-- A caller that comes in mid-run takes the phase of the engine (log 29). -/
theorem test_fetch_new_caller :
    (({ rstg with callers := [] }).withFetchWord 48 0x001400000000).callers.map Caller.phase = [.resetting] := by decide

/-! ## Witnesses: concrete states and operands that meet the hypotheses of the statements -/
/-- The reset states and the busy state that the clauses of the register statements speak of, each met. -/
abbrev ResetStates : Prop :=
  pwr.poweredUnreset = true ∧ pwr.resetPending = false ∧ pwr.job = none ∧
  rstg.poweredUnreset = false ∧ rstg.resetPending = true ∧
  Running cfg8 ∧ cfg8.job = none ∧ Running busy ∧ busy.job ≠ none

/-- A consistent state in a reset. -/
theorem rstg_consistent (ts : List Agent) : Consistent { rstg with turns := ts } where
  resetting_not_powered := fun _ => rfl
  resetting_no_job := fun _ => rfl
  powered_no_job := fun h => by cases h
  resetting_resetDone := fun _ => rfl
  running_resetDone := fun h => by cases h.2
  job_valid := fun h => by cases h
  job_level := fun _ h => by cases h

/-- A consistent state with a job, whose turns are the engine's and an idle caller's. -/
theorem busy_consistent (ts : List Agent) : Consistent { busy with turns := ts } where
  resetting_not_powered := fun _ => rfl
  resetting_no_job := fun h => by cases h
  powered_no_job := fun h => by cases h
  resetting_resetDone := fun h => by cases h
  running_resetDone := fun _ => rfl
  job_valid := fun _ => rfl
  job_level := fun j h => by cases h; rfl

theorem witness_EncodedTransactionsDecodeBack : (Instr.wrSysconfigSrst 0x2).wellFormed = true ∧
    (Instr.wrSysconfig 0xFFFFFFFD).wellFormed = true ∧ (Instr.wrSf6 0xFFFEFFFF).wellFormed = true ∧
    (Instr.wrSf6Trig 0x10000).wellFormed = true ∧ (Instr.wrErrloc 15 0).wellFormed = true := by decide

theorem witness_DecodeFollowsTheOpcodeRows : decode 0x1010FFFFFFFD#45 = .ok (.wrSysconfig 0xFFFFFFFD) ∧
    (Instr.wrSf6Trig 0x10000).wellFormed = true ∧
    0x141800010000#45 &&& rowMask (.wrSf6Trig 0x10000) = rowMatch (.wrSf6Trig 0x10000) := by
  refine ⟨rfl, rfl, rfl⟩

/-- Each clause, the offset at its boundary: the last mapped one, one past it, an odd one. -/
theorem witness_BoundaryChecksInOrder :
    (BusRequest.mk .byte 0x001000000000#45).width ≠ .word ∧
    (BusRequest.mk .word 0x0FFF00000000#45).bits.offset.toNat % 4 ≠ 0 ∧
    ((BusRequest.mk .word 0x08C000000000#45).bits.offset.toNat % 4 = 0 ∧
      (BusRequest.mk .word 0x08C000000000#45).bits.offset ∉ mappedOffsets) ∧
    (BusRequest.mk .word 0x08BC00000000#45).bits.offset ∈ mappedOffsets := by decide

theorem witness_ReadSysconfigReturnsIdleMode : ResetStates := by decide

theorem witness_SoftResetWriteStartsReset : ResetStates ∧ busy.resetPending = false ∧
    (0x12#32).getLsbD 1 = true := by decide

theorem witness_SysconfigWriteStoresIdleMode : ResetStates ∧ (0xFFFFFFFD#32).getLsbD 1 = false := by decide

theorem witness_ReadSysstatusReturnsResetDone : ResetStates ∧ Consistent rstg ∧ Consistent busy :=
  ⟨by decide, rstg_consistent _, busy_consistent _⟩

theorem witness_ReadIrqstatusReturnsDone : ResetStates := by decide

theorem witness_IrqstatusWriteOneClears : ResetStates := by decide

theorem witness_ReadLocationConfigReturnsFields : ResetStates := by decide

theorem witness_LocationConfigWriteStoresFields : ResetStates := by decide

theorem witness_ConfigureReadsBack : Running cfg8 ∧ cfg8.job = none := by decide

theorem witness_ReadPageCtrlReturnsMode : ResetStates := by decide

theorem witness_PageCtrlWriteStoresMode : ResetStates := by decide

theorem witness_ReadFragmentsReturnWords : ResetStates ∧ Consistent busy := ⟨by decide, busy_consistent _⟩

theorem witness_FragmentWritesStoreWords : ResetStates := by decide

theorem witness_Fragment6WriteStoresWithoutTrigger : ResetStates ∧ (0xFFFEFFFF#32).getLsbD 16 = false := by decide

/-- The clauses of the trigger: the reserved level, a page mode, and the trigger that starts a job. -/
theorem witness_TriggerStartsDecodeOfSampledOperands : ResetStates ∧ (0x00010000#32).getLsbD 16 = true ∧
    (strengthOf { cfg8 with level := Config.codes.reserved }.level = none) ∧
    (strengthOf cfg8.level ≠ none ∧ { cfg8 with pageMode := 0xFFFFFFFF }.pageMode ≠ 0) ∧
    (strengthOf cfg8.level ≠ none ∧ cfg8.pageMode = 0) :=
  ⟨by decide, by decide, (strengthOf_eq_none _).2 rfl, by decide, by decide⟩

theorem witness_ReadLocationStatusReturnsVerdict : ResetStates := by decide

theorem witness_ReadErrorLocationReturnsSlot : ResetStates := by decide

theorem witness_ReadOnlyWritesAreRefused : ResetStates := by decide

theorem witness_AdmissionFollowsResetState : ResetStates ∧ Instr.rdIrqstatus ≠ .rdSysconfig ∧
    Instr.rdIrqstatus ≠ .rdSysstatus := by decide

theorem witness_BusyEngineAdmitsOnlyHarmlessTransactions : Running busy ∧ busy.job = some jobA ∧
    disturbsJob (.wrSf6 0) = true ∧ disturbsJob (.rdErrloc 15) = false ∧ writesReadOnly (.rdErrloc 15) = false := by
  decide

theorem witness_ReadsHaveNoSideEffects : IsRead (.rdErrloc 15) ∧ Running busy := by decide

theorem witness_FlagsWrittenOnlyByNamedTransactions :
    (∃ t, exec (.wrSysconfigSrst 2) cfg8 = .next t ∧ t.resetDone ≠ cfg8.resetDone) ∧
    (∃ t, exec (.wrIrqstatus 1) fin = .next t ∧ t.done0 ≠ fin.done0) ∧
    (∃ t, exec (.wrSf6Trig 0x10000) cfg8 = .next t ∧ t.frag6Valid ≠ cfg8.frag6Valid) :=
  ⟨⟨_, rfl, by decide⟩, ⟨_, rfl, by decide⟩, ⟨_, rfl, by decide⟩⟩

theorem witness_TransactionsLeaveResultsAndSoftwareAlone : ∃ t, exec (.wrSf6Trig 0x10000) fin = .next t := ⟨_, rfl⟩

theorem witness_IdleModeInfluencesNothingElse : Instr.wrSf0 1 ≠ .rdSysconfig ∧
    (∃ t, exec (.wrSf0 1) cfg8 = .next t) ∧ exec (.wrSf0 1) busy = .fault .overlappingUse ∧
    exec (.wrSf0 1) pwr = .refused .beforeReset :=
  ⟨by decide, ⟨_, rfl⟩, rfl, rfl⟩

theorem witness_ResetCompletionInitialises : Unmarked { rstg with turns := [.engineReset] } ∧
    rstg.resetPending = true := by decide

theorem witness_DecodeCompletionPublishesVerdict : Unmarked { busy with turns := [.engineDecode] } ∧
    { busy with turns := [.engineDecode] }.job = some jobA := by decide

theorem witness_DisabledEngineAgentsDoNothing : Unmarked cfg8 ∧ cfg8.resetPending = false ∧ cfg8.job = none := by
  decide

/-- A pending reset and a job, each with its agent's turn second, after an idle caller's. -/
theorem witness_EngineCompletesAtItsTurn :
    (Unmarked { rstg with turns := [.caller 0, .engineReset] } ∧
      Consistent { rstg with turns := [.caller 0, .engineReset] } ∧ rstg.resetPending = true ∧
      turnAt { rstg with turns := [.caller 0, .engineReset] } 1 = .engineReset) ∧
    (Unmarked { busy with turns := [.caller 0, .engineDecode] } ∧
      Consistent { busy with turns := [.caller 0, .engineDecode] } ∧ busy.job ≠ none ∧
      turnAt { busy with turns := [.caller 0, .engineDecode] } 1 = .engineDecode) :=
  ⟨⟨by decide, rstg_consistent _, rfl, rfl⟩, ⟨by decide, busy_consistent _, by decide, rfl⟩⟩

theorem witness_ReportedCountWithinStrength : busyClean.job.isSome = true ∧ strengthOf 1 = some .bch8 ∧
    (engineDecodeStep busyClean).correctable = true :=
  ⟨rfl, rfl, test_decode_completion_clean.1⟩

theorem witness_EqualOperandsGiveEqualResults : busyClean.job = { busyClean with draws := 7 }.job ∧
    busyClean.job.isSome = true ∧ (engineDecodeStep busyClean).correctable = true :=
  ⟨rfl, rfl, test_decode_completion_clean.1⟩

theorem witness_AcknowledgeAndCompletionInEitherOrder : Running busy ∧ busy.job = some jobA := by decide

/-- A caller that asks for one bare transaction. -/
abbrev asking (bits : Transaction) : Caller :=
  { Caller.fresh .configured with commands := [.transaction { width := .word, bits := bits }] }

/-- The three outcomes of a decoded transaction. -/
theorem witness_StepRunsTheDecodedTransaction :
    Unmarked { cfg8 with turns := [.caller 0], callers := [asking 0x102007FF0001#45] } ∧
    decodeRequest { width := .word, bits := 0x102007FF0001#45 } = .ok (.wrLocationConfig 0x07FF0001) ∧
    (∃ t, exec (.wrLocationConfig 0x07FF0001) { cfg8 with callers := [asking 0x102007FF0001#45] } = .next t) ∧
    exec (.wrLocationConfig 0x07FF0001) busy = .fault .overlappingUse ∧
    exec (.wrLocationConfig 0x07FF0001) rstg = .refused .duringReset :=
  ⟨by decide, rfl, ⟨_, rfl⟩, rfl, rfl⟩

theorem witness_BoundaryRefusalSetsTheMark :
    Unmarked { cfg8 with turns := [.caller 0], callers := [asking 0x08C000000000#45] } ∧
    decodeRequest { width := .word, bits := 0x08C000000000#45 } = .error .unmapped :=
  ⟨by decide, rfl⟩

theorem witness_FetchedWordIsRunNext : Unmarked State.reset ∧
    decodeTableWord 48 0x18BC00000000 = some (.wrErrloc 15 0) ∧
    decodeTableWord 48 0x102007FF0001 = some (.wrLocationConfig 0x07FF0001) ∧
    ∃ t, exec (.wrLocationConfig 0x07FF0001)
      { State.reset.withFetchWord 48 0x102007FF0001 with turns := State.reset.turns } = .next t :=
  ⟨by decide, rfl, rfl, ⟨_, rfl⟩⟩

theorem witness_MarkedMachineStops : { cfg8 with fault := some .overlappingUse }.fault = some .overlappingUse ∧
    { cfg8 with refused := some .width }.fault = none ∧
    { cfg8 with refused := some .width }.refused = some .width := by decide

theorem witness_UnmarkedMachineSteps : Unmarked cfg8 := by decide

theorem witness_StepKeepsEngineConsistent : ∃ t, Consistent { busy with turns := [.engineDecode] } ∧
    step { busy with turns := [.engineDecode] } = .next t ∧ Unmarked t :=
  ⟨_, busy_consistent _, rfl, ⟨rfl, rfl⟩⟩

/-- Both alternatives: the job stays, the job completes. -/
theorem witness_JobOperandsAreStableUntilCompletion :
    (∃ t, Consistent { busy with turns := [.caller 0] } ∧ step { busy with turns := [.caller 0] } = .next t ∧
      Unmarked t ∧ t.job = some jobA) ∧
    (∃ t, Consistent { busy with turns := [.engineDecode] } ∧
      step { busy with turns := [.engineDecode] } = .next t ∧ Unmarked t ∧ t.job = none) :=
  ⟨⟨_, busy_consistent _, rfl, ⟨rfl, rfl⟩, rfl⟩, ⟨_, busy_consistent _, rfl, ⟨rfl, rfl⟩, rfl⟩⟩

theorem witness_FirstResetIsNeverUndone : rstg.poweredUnreset = false ∧
    ∃ t, step { rstg with turns := [.engineReset] } = .next t :=
  ⟨rfl, ⟨_, rfl⟩⟩

/-- A machine with two instances, one of them registered. -/
abbrev twoInstances (code : List Line) : State :=
  { cfg8 with
    callers := [{ Caller.fresh .configured with code := code }]
    instances := [{ base := 0, level := .bch8 }, { base := 1, level := .bch4 }]
    registry := [0]
    turns := [.caller 0] }

theorem witness_RegistryIsAppendOnly :
    ∃ t, step (twoInstances [.appendInstance 1]) = .next t ∧ t.registry = [0, 1] :=
  ⟨_, rfl, rfl⟩

theorem witness_RegistryNamesInstances : HandlesExist (twoInstances [.appendInstance 1]) ∧
    ∃ t, step (twoInstances [.appendInstance 1]) = .next t ∧ t.registry = [0, 1] :=
  ⟨by decide, _, rfl, rfl⟩

theorem witness_CallersDoNotTouchEachOther :
    turnOf { cfg8 with turns := [.caller 0], callers := [asking 0x040000000000#45, asking 0x040000000000#45] } =
      .caller 0 ∧
    ∃ t, step { cfg8 with turns := [.caller 0], callers := [asking 0x040000000000#45, asking 0x040000000000#45] } =
      .next t ∧ t.callers[1]? = some (asking 0x040000000000#45) :=
  ⟨rfl, ⟨_, rfl, rfl⟩⟩

theorem witness_StartRestoresOldFragment6 : Running cfg8 ∧ cfg8.job = none ∧ strengthOf cfg8.level ≠ none ∧
    cfg8.pageMode = 0 := by decide

theorem witness_LastConfigurationDecidesStrength : Running cfg8 ∧ cfg8.job = none ∧ cfg8.pageMode = 0 := by decide

/-- A caller in the middle of an operation. -/
abbrev running (code : List Line) : Caller := { Caller.fresh .configured with code := code }

/-- Both registries: empty, and with a first instance. -/
theorem witness_RequestTakesTheFirstInstance :
    Unmarked { cfg8 with turns := [.caller 0], callers := [running [.lookup .bch8]] } ∧
    { cfg8 with turns := [.caller 0], callers := [running [.lookup .bch8]] }.callers[0]? =
      some (running [.lookup .bch8]) ∧
    cfg8.registry = [] ∧
    (twoInstances [.lookup .bch16]).registry = [0] ∧
    (twoInstances [.lookup .bch16]).instances[0]? = some { base := 0, level := .bch8 } := by decide

/-- A caller about to call operations. -/
abbrev calling (ops : List Operation) : Caller := { Caller.fresh .configured with commands := ops.map .operation }

theorem witness_RequestConfiguresTheEngine :
    Unmarked (twoInstances []) ∧ Running (twoInstances []) ∧ (twoInstances []).job = none ∧
    (twoInstances []).registry = [0] ∧ (twoInstances []).instances[0]? = some { base := 0, level := .bch8 } ∧
    { twoInstances [] with callers := [calling [.request .bch16]] }.callers[0]? = some (calling [.request .bch16]) ∧
    (calling [.request .bch16]).code = [] ∧
    (calling [.request .bch16]).commands = [.operation (.request .bch16)] := by decide

/-- An instance at BCH4 that is configured to BCH8, and the other way round; a handle of no instance. -/
theorem witness_ConfigureDecidesThePayloadCheck :
    Unmarked (twoInstances []) ∧ Running (twoInstances []) ∧ (twoInstances []).job = none ∧
    (twoInstances []).instances[0]? = some { base := 0, level := .bch8 } ∧
    (twoInstances []).instances[1]? = some { base := 1, level := .bch4 } ∧
    (twoInstances []).instances[2]? = none ∧
    (calling [.configure 1 .bch8, .decode 1 payloadA.toList none]).commands =
      [.operation (.configure 1 .bch8), .operation (.decode 1 payloadA.toList none)] ∧
    (calling [.configure 0 .bch4, .decode 0 payloadA.toList none]).commands =
      [.operation (.configure 0 .bch4), .operation (.decode 0 payloadA.toList none)] := by decide

/-- An instance at BCH8 with its thirteen bytes, and with twelve; a handle of no instance. -/
theorem witness_PayloadLengthIsOpenButForBch8 :
    Unmarked (twoInstances [.checkPayload 0 payloadA.toList]) ∧
    (twoInstances [.checkPayload 0 payloadA.toList]).callers[0]? = some (running [.checkPayload 0 payloadA.toList]) ∧
    (twoInstances []).instances[0]? = some { base := 0, level := .bch8 } ∧ payloadA.toList.length = 13 ∧
    payloadA.toList.tail.length ≠ 13 ∧ (twoInstances []).instances[2]? = none := by
  decide

/-- V80 (`POLL_BOUND = 2`) for both waits: a bound used up, a poll that sees a 1, and two polls that see a 0. -/
theorem witness_TimeoutLeavesTheEngineAlone :
    (Unmarked busy ∧ Running busy ∧ busy.done0 = false) ∧ (Unmarked fin ∧ Running fin ∧ fin.done0 = true) ∧
    (rstg.poweredUnreset = false ∧ rstg.resetDone = false) ∧ (cfg8.poweredUnreset = false ∧ cfg8.resetDone = true) ∧
    (running [.pollDone (some 0), .acknowledge]).code = .pollDone (some 0) :: [.acknowledge] ∧
    (running [.pollResetDone (some 0)]).code = .pollResetDone (some 0) :: [] ∧
    (running [.pollDone (some 2), .acknowledge]).code = .pollDone (some (1 + 1)) :: [.acknowledge] ∧
    (running [.pollResetDone (some 2)]).code = .pollResetDone (some 2) :: [] := by decide

/-- The three clauses, the count at its boundaries: 16, 17, 31 (V4, V78 of 95_test_vectors.md). -/
theorem witness_ClassifyReadsCountedSlots :
    ((0x00000111#32).getLsbD 8 = true ∧ 16 < (getField 0x00000111#32 0 5).toNat) ∧
    ((0x0000011F#32).getLsbD 8 = true ∧ 16 < (getField 0x0000011F#32 0 5).toNat) ∧
    ((0x00000110#32).getLsbD 8 = true ∧ (getField 0x00000110#32 0 5).toNat ≤ 16) ∧
    (0xFFFFFEFF#32).getLsbD 8 = false := by decide

theorem witness_RegisterBringsTheEngineUp :
    (calling [.register 0 none]).code = [] ∧
    (calling [.register 0 none]).commands = [.operation (.register 0 none)] := by decide

/-- Payload A (V10), two failed polls. -/
abbrev decoding : State :=
  { cfg8 with
    instances := [{ base := 0, level := .bch8 }]
    callers := [calling [.decode 0 payloadA.toList none]]
    turns := List.replicate 11 (.caller 0) ++ .engineDecode :: List.replicate 13 (.caller 0) }

theorem witness_DecodeReturnsTheLocatedErrors :
    Unmarked decoding ∧ Running decoding ∧ decoding.job = none ∧ decoding.done0 = false ∧
    decoding.level = codeOf .bch8 ∧ decoding.size = 2047 ∧ decoding.pageMode = 0 ∧ decoding.frag[4] = 0 ∧
    decoding.frag[5] = 0 ∧ decoding.frag6Data = 0 ∧
    decoding.instances[0]? = some { base := 0, level := .bch8 } ∧
    decoding.callers[0]? = some (calling [.decode 0 payloadA.toList none]) ∧
    decoding.turns = List.replicate (9 + 2) (.caller 0) ++ .engineDecode :: List.replicate 13 (.caller 0) := by
  decide

end Sys2Proof.Tests
end

/-! PROOFS of the family 30_encoding.md. A row of the opcode table is read field by field: its mask keeps `W`, all of
`OFF` (but the slot index in the error-location family) and the sub-form's data bit. -/

namespace Sys2Proof

/-! ### The fields of a masked transaction -/

theorem isWrite_and (t m : Transaction) : Transaction.isWrite (t &&& m) = (t.isWrite && m.isWrite) :=
  BitVec.getLsbD_and

theorem offset_and (t m : Transaction) : Transaction.offset (t &&& m) = t.offset &&& m.offset :=
  BitVec.extractLsb'_and

theorem data_and (t m : Transaction) : Transaction.data (t &&& m) = t.data &&& m.data :=
  BitVec.extractLsb'_and

/-! ### A decoded word matches its row -/

section
open Laws.RowEncoding

/-- The per-row laws together: a well-formed instruction's word matches the instruction's row. -/
theorem encode_matches_row : ∀ i : Instr, i.wellFormed = true → encode i &&& rowMask i = rowMatch i
  | .rdSysconfig => rdSysconfig
  | .wrSysconfigSrst data => wrSysconfigSrst data
  | .wrSysconfig data => wrSysconfig data
  | .rdSysstatus => rdSysstatus
  | .wrSysstatus data => wrSysstatus data
  | .rdIrqstatus => rdIrqstatus
  | .wrIrqstatus data => wrIrqstatus data
  | .rdLocationConfig => rdLocationConfig
  | .wrLocationConfig data => wrLocationConfig data
  | .rdPageCtrl => rdPageCtrl
  | .wrPageCtrl data => wrPageCtrl data
  | .rdSf0 => rdSf0
  | .rdSf1 => rdSf1
  | .rdSf2 => rdSf2
  | .rdSf3 => rdSf3
  | .rdSf4 => rdSf4
  | .rdSf5 => rdSf5
  | .rdSf6 => rdSf6
  | .wrSf0 data => wrSf0 data
  | .wrSf1 data => wrSf1 data
  | .wrSf2 data => wrSf2 data
  | .wrSf3 data => wrSf3 data
  | .wrSf4 data => wrSf4 data
  | .wrSf5 data => wrSf5 data
  | .wrSf6 data => wrSf6 data
  | .wrSf6Trig data => wrSf6Trig data
  | .rdLocationStatus => rdLocationStatus
  | .wrLocationStatus data => wrLocationStatus data
  | .rdErrloc k => rdErrloc k
  | .wrErrloc k data => wrErrloc k data

end

/-- The row of a read masks no data bit (30_encoding.md R71). -/
theorem rowMask_data_of_read (i : Instr) (h : (encode i).isWrite = false) : (rowMask i).data = 0 := by
  cases i with
  | rdSysconfig | rdSysstatus | rdIrqstatus | rdLocationConfig | rdPageCtrl | rdSf0 | rdSf1 | rdSf2 | rdSf3 | rdSf4
  | rdSf5 | rdSf6 | rdLocationStatus => rfl
  | rdErrloc _ =>
    show Transaction.data 0x1FC300000000#45 = 0
    rfl
  | wrSysconfigSrst _ | wrSysconfig _ | wrSysstatus _ | wrIrqstatus _ | wrLocationConfig _ | wrPageCtrl _ | wrSf0 _
  | wrSf1 _ | wrSf2 _ | wrSf3 _ | wrSf4 _ | wrSf5 _ | wrSf6 _ | wrSf6Trig _ | wrLocationStatus _ | wrErrloc _ _ =>
    simp [encode] at h

/-- Two transactions that agree but for data bits outside the mask are masked to the same word. -/
theorem packTransaction_and_congr (w : BitVec 1) (off : Offset) (data data' : Word) (m : Transaction)
    (h : data &&& m.data = data' &&& m.data) :
    packTransaction w off data &&& m = packTransaction w off data' &&& m := by
  rw [← packTransaction_fields m, packTransaction_and, packTransaction_and, h]

/-- The decoded instruction's word and the word decoded are one under the row's mask: they differ in the ignored
data of a read only. -/
theorem and_rowMask_of_decode_ok (t : Transaction) (i : Instr) (h : decode t = .ok i) :
    t &&& rowMask i = encode i &&& rowMask i := by
  obtain ⟨-, he⟩ := decode_ok t i h
  cases hw : t.isWrite
  case true =>
    have : encode i = t := by rw [he, if_pos hw, packTransaction_fields]
    rw [this]
  case false =>
    have hm : (rowMask i).data = 0 := rowMask_data_of_read i (by simp [he, hw])
    calc t &&& rowMask i
        = packTransaction (BitVec.ofBool t.isWrite) t.offset t.data &&& rowMask i := by rw [packTransaction_fields]
      _ = packTransaction (BitVec.ofBool t.isWrite) t.offset 0 &&& rowMask i :=
          packTransaction_and_congr _ _ _ _ _ (by simp [hm])
      _ = encode i &&& rowMask i := by rw [he]; simp [hw]

/-! ### A word that matches a row is decoded as that row -/

/-- A match with a row, field by field. -/
theorem fields_of_row_match {t m v : Transaction} (hm : m.isWrite = true) (h : t &&& m = v) :
    t.isWrite = v.isWrite ∧ t.offset &&& m.offset = v.offset ∧ t.data &&& m.data = v.data := by
  subst h
  exact ⟨by simp [isWrite_and, hm], (offset_and t m).symm, (data_and t m).symm⟩

/-- Every row masks `W`. -/
theorem isWrite_rowMask (i : Instr) : (rowMask i).isWrite = true := by
  unfold rowMask
  split <;> rfl

/-- Decoding a word of a read row that fixes the whole offset. -/
theorem decode_of_read_row {t : Transaction} (off : Offset) (hw : t.isWrite = false)
    (ho : t.offset &&& BitVec.allOnes 12 = off) (ha : off.misaligned = false) : decode t = decodeRead off := by
  rw [BitVec.and_allOnes] at ho
  rw [← packTransaction_fields t, hw, ho]
  exact decode_pack_read off _ ha

/-- Decoding a word of a write row that fixes the whole offset. -/
theorem decode_of_write_row {t : Transaction} (off : Offset) (hw : t.isWrite = true)
    (ho : t.offset &&& BitVec.allOnes 12 = off) (ha : off.misaligned = false) : decode t = decodeWrite off t.data := by
  rw [BitVec.and_allOnes] at ho
  conv_lhs => rw [← packTransaction_fields t, hw, ho]
  exact decode_pack_write off _ ha

/-- The offsets the error-location rows match are the slot offsets (30_encoding.md R73). -/
theorem eq_slotOffset_of_errloc_row {off m v : Offset} (h : off &&& m = v) (hm : m = 0xFC3#12) (hv : v = 0x880#12) :
    off = slotOffset off.slot := by
  subst hm hv
  have he : off.isErrloc = true := by
    have := congrArg (BitVec.extractLsb' 6 6) h
    rw [BitVec.extractLsb'_and] at this
    exact beq_iff_eq.2 (BitVec.and_allOnes.symm.trans this)
  have ha : off.misaligned = false := by
    have := congrArg (BitVec.extractLsb' 0 2) h
    rw [BitVec.extractLsb'_and] at this
    exact bne_eq_false_iff_eq.2 (BitVec.and_allOnes.symm.trans this)
  exact (slotOffset_slot off he ha).symm

theorem decodeRead_slotOffset (k : BitVec 4) : decodeRead (slotOffset k) = .ok (.rdErrloc k) := by
  decide +revert

theorem decodeWrite_slotOffset (k : BitVec 4) (data : Word) :
    decodeWrite (slotOffset k) data = .ok (.wrErrloc k data) := by
  simp (disch := decide) [decodeWrite, slotOffset_ne]

/-- A data bit that a row's mask keeps is that bit of the match value. -/
theorem getLsbD_of_masked {data m v : Word} (k : Nat) (h : data &&& m = v) (hm : m.getLsbD k = true) :
    data.getLsbD k = v.getLsbD k := by
  simp [← h, hm]

theorem sysconfigWrite_of_bit {data : Word} (h : data.getLsbD 1 = true) :
    sysconfigWrite data = .wrSysconfigSrst data := if_pos h

theorem sysconfigWrite_of_not_bit {data : Word} (h : data.getLsbD 1 = false) :
    sysconfigWrite data = .wrSysconfig data := if_neg (Bool.eq_false_iff.1 h)

theorem fragment6Write_of_bit {data : Word} (h : data.getLsbD 16 = true) :
    fragment6Write data = .wrSf6Trig data := if_pos h

theorem fragment6Write_of_not_bit {data : Word} (h : data.getLsbD 16 = false) :
    fragment6Write data = .wrSf6 data := if_neg (Bool.eq_false_iff.1 h)

/-- A word that matches a row is decoded as an instruction of that row. -/
theorem decode_of_row_match (t : Transaction) (i : Instr) (h : t &&& rowMask i = rowMatch i) :
    ∃ j, decode t = .ok j ∧ rowMatch j = rowMatch i ∧ rowMask j = rowMask i := by
  obtain ⟨hw, ho, hd⟩ := fields_of_row_match (isWrite_rowMask i) h
  cases i with
    dsimp only [rowMask, rowMatch] at hw ho hd ⊢
  | rdSysconfig | rdSysstatus | rdIrqstatus | rdLocationConfig | rdPageCtrl | rdSf0 | rdSf1 | rdSf2 | rdSf3 | rdSf4
  | rdSf5 | rdSf6 | rdLocationStatus => exact ⟨_, decode_of_read_row _ hw ho rfl, rfl, rfl⟩
  | wrSysstatus _ | wrIrqstatus _ | wrLocationConfig _ | wrPageCtrl _ | wrSf0 _ | wrSf1 _ | wrSf2 _ | wrSf3 _
  | wrSf4 _ | wrSf5 _ | wrLocationStatus _ => exact ⟨_, decode_of_write_row _ hw ho rfl, rfl, rfl⟩
  | wrSysconfigSrst _ =>
    have hb := sysconfigWrite_of_bit (getLsbD_of_masked 1 hd rfl)
    exact ⟨_, (decode_of_write_row _ hw ho rfl).trans (congrArg Except.ok hb), rfl, rfl⟩
  | wrSysconfig _ =>
    have hb := sysconfigWrite_of_not_bit (getLsbD_of_masked 1 hd rfl)
    exact ⟨_, (decode_of_write_row _ hw ho rfl).trans (congrArg Except.ok hb), rfl, rfl⟩
  | wrSf6 _ =>
    have hb := fragment6Write_of_not_bit (getLsbD_of_masked 16 hd rfl)
    exact ⟨_, (decode_of_write_row _ hw ho rfl).trans (congrArg Except.ok hb), rfl, rfl⟩
  | wrSf6Trig _ =>
    have hb := fragment6Write_of_bit (getLsbD_of_masked 16 hd rfl)
    exact ⟨_, (decode_of_write_row _ hw ho rfl).trans (congrArg Except.ok hb), rfl, rfl⟩
  | rdErrloc _ =>
    have hs := eq_slotOffset_of_errloc_row ho rfl rfl
    rw [← packTransaction_fields t, hw, hs]
    exact ⟨_, (decode_pack_read _ _ (misaligned_slotOffset _)).trans (decodeRead_slotOffset _), rfl, rfl⟩
  | wrErrloc _ _ =>
    have hs := eq_slotOffset_of_errloc_row ho rfl rfl
    rw [← packTransaction_fields t, hw, hs]
    exact ⟨_, (decode_pack_write _ _ (misaligned_slotOffset _)).trans (decodeWrite_slotOffset _ _), rfl, rfl⟩

/-- Settles O2. A decoded word and its instruction's own word agree under the row's mask; a word that matches a row
has that row's fields, on which the decoder answers with the row. -/
theorem decodeFollowsTheOpcodeRows : Obligations.DecodeFollowsTheOpcodeRows := by
  unfold Obligations.DecodeFollowsTheOpcodeRows
  intro t
  constructor
  · intro i h
    obtain ⟨hwf, -⟩ := decode_ok t i h
    exact ⟨hwf, (and_rowMask_of_decode_ok t i h).trans (encode_matches_row i hwf)⟩
  · intro i _ h
    exact decode_of_row_match t i h

end Sys2Proof

namespace Sys2Proof.Machine

/-- Settles O46: `rotate` is `List.reverse`, read by index. -/
theorem rotateReversesBytes : Obligations.RotateReversesBytes := by
  unfold Obligations.RotateReversesBytes rotate
  intro src
  refine ⟨by simp, fun i => ?_, List.reverse_reverse _⟩
  have hi : 12 - i.val < src.toList.length := by simp; omega
  have hidx : src.toList.length - 1 - (12 - i.val) = i.val := by simp; omega
  rw [List.getElem?_reverse hi, hidx]
  simp

end Sys2Proof.Machine

/-! PROOFS of the family 40_bus_register_access.md. Each arm of `exec` is an admission check around one register
operation (R126, R127): what the check answers is proved once for every instruction, and an obligation adds the decoded
row and what its operation does to the named fields. -/

namespace Sys2Proof.Machine

/-! ### Rows of the decoder -/

section
variable {off : Offset} {i : Instr} {data : Word}

theorem decodesRead_of_row (ha : off.misaligned = false) (h : decodeRead off = .ok i) : DecodesRead off i :=
  fun data => (decode_pack_read off data ha).trans h

theorem decodesWrite_of_row (ha : off.misaligned = false) (h : decodeWrite off data = .ok i) :
    DecodesWrite off data i :=
  (decode_pack_write off data ha).trans h

end

/-! ### What admission answers, for every instruction it guards -/

section
variable {i : Instr} {s : State} {r : Result}

theorem refusedUntilReset_of_afterReset (h : exec i s = afterReset s r) : RefusedUntilReset i s := by
  constructor
  · intro hp
    simp [h, afterReset, hp]
  · intro hp hr
    simp [h, afterReset, hp, hr]

theorem exec_running (h : exec i s = afterReset s r) (hrun : Running s) : exec i s = r :=
  h.trans (afterReset_running s r hrun.1 hrun.2)

theorem faultsOnJob_of_whenNoJob (h : exec i s = afterReset s (whenNoJob s r)) : FaultsOnJob i s := by
  intro hrun hjob
  obtain ⟨j, hj⟩ := Option.ne_none_iff_exists'.1 hjob
  exact (exec_running h hrun).trans (whenNoJob_some s r j hj)

theorem exec_idle (h : exec i s = afterReset s (whenNoJob s r)) (hrun : Running s) (hjob : s.job = none) :
    exec i s = r :=
  (exec_running h hrun).trans (whenNoJob_none s r hjob)

end

/-! ### Two fields of one word -/

/-- A field reads back under a field written above it. -/
theorem getField_setField_setField (w : Word) (lo hi : Nat) {n m : Nat} (v : BitVec n) (u : BitVec m)
    (h : lo + n ≤ 32) (hd : lo + n ≤ hi) : getField (setField (setField w lo v) hi u) lo n = v :=
  (getField_setField_disjoint _ hi lo n u h (.inl hd)).trans (getField_setField w lo v h)

/-! ### SYSSTATUS -/

/-- What RD.SYSSTATUS makes of the free word `w` (R103). -/
def sysstatusWord (s : State) (w : Word) : Word :=
  if s.poweredUnreset then w else setField w 0 (BitVec.ofBool s.resetDone)

theorem exec_rdSysstatus (s : State) : exec .rdSysstatus s = .next (s.answerNamed (sysstatusWord s)) := rfl

theorem sysstatusWord_powered {s : State} (w : Word) (h : s.poweredUnreset = true) : sysstatusWord s w = w :=
  if_pos h

theorem sysstatusWord_bit {s : State} (w : Word) (h : s.poweredUnreset = false) :
    (sysstatusWord s w).getLsbD 0 = s.resetDone := by
  rw [sysstatusWord, if_neg (Bool.eq_false_iff.1 h)]
  exact getLsbD_setField_ofBool w 0 s.resetDone (by decide)

/-- Settles O8. Bit 0 is RESETDONE once the engine has left `powered_unreset`; what it then reads is the invariant's
clause on RESETDONE. -/
theorem readSysstatusReturnsResetDone : Obligations.ReadSysstatusReturnsResetDone := by
  unfold Obligations.ReadSysstatusReturnsResetDone
  intro s
  refine ⟨decodesRead_of_row rfl rfl, _, exec_rdSysstatus s, State.answerNamed_eq _ _, ?_, ?_, ?_, ?_⟩
  · exact sysstatusWord_powered _
  · exact sysstatusWord_bit _
  · intro hc hr
    exact (sysstatusWord_bit _ (hc.resetting_not_powered hr)).trans (hc.resetting_resetDone hr)
  · intro hc hrun
    exact (sysstatusWord_bit _ hrun.1).trans (hc.running_resetDone hrun)

/-! ### LOCATION_CONFIG and PAGE_CTRL -/

theorem exec_rdLocationConfig (s : State) : exec .rdLocationConfig s =
    afterReset s (.next (s.answerNamed fun w => setField (setField w 0 s.level) 16 s.size)) := rfl

theorem exec_wrLocationConfig (data : Word) (s : State) : exec (.wrLocationConfig data) s =
    afterReset s (whenNoJob s (.next (s.storeConfig (levelOf data) (bufferSizeOf data)))) := rfl

theorem exec_rdPageCtrl (s : State) : exec .rdPageCtrl s = afterReset s (.next (s.answer s.pageMode)) := rfl

/-- Settles O11. SIZE is written last and LEVEL lies below it. -/
theorem readLocationConfigReturnsFields : Obligations.ReadLocationConfigReturnsFields := by
  unfold Obligations.ReadLocationConfigReturnsFields
  intro s
  have he := exec_rdLocationConfig s
  refine ⟨decodesRead_of_row rfl rfl, refusedUntilReset_of_afterReset he, fun hrun =>
    ⟨_, exec_running he hrun, State.answerNamed_eq _ _, ?_, ?_⟩⟩
  · exact getField_setField_setField _ 0 16 s.level s.size (by decide) (by decide)
  · exact getField_setField _ 16 s.size (by decide)

/-- Settles O12. With both checks passed, the arm is `storeConfig` of the two fields of DATA. -/
theorem locationConfigWriteStoresFields : Obligations.LocationConfigWriteStoresFields := by
  unfold Obligations.LocationConfigWriteStoresFields
  intro data s
  have he := exec_wrLocationConfig data s
  exact ⟨decodesWrite_of_row rfl rfl, refusedUntilReset_of_afterReset he, faultsOnJob_of_whenNoJob he, exec_idle he⟩

/-- Settles O14. PAGE_CTRL has no reserved bits, so the answer is the register and no free word. -/
theorem readPageCtrlReturnsMode : Obligations.ReadPageCtrlReturnsMode := by
  unfold Obligations.ReadPageCtrlReturnsMode
  intro s
  have he := exec_rdPageCtrl s
  exact ⟨decodesRead_of_row rfl rfl, refusedUntilReset_of_afterReset he, fun hrun =>
    ⟨_, exec_running he hrun, State.answer_eq _ _, State.answer_readData _ _⟩⟩

/-! ### Fragments 0 to 5, by index -/

/-- The offset of fragment `k` (R111). -/
def fragOffset : Fin 6 → Offset := ![0x400, 0x404, 0x408, 0x40C, 0x410, 0x414]

/-- RD.SFk. -/
def rdSf : Fin 6 → Instr := ![.rdSf0, .rdSf1, .rdSf2, .rdSf3, .rdSf4, .rdSf5]

/-- WR.SFk. -/
def wrSf (data : Word) : Fin 6 → Instr :=
  ![.wrSf0 data, .wrSf1 data, .wrSf2 data, .wrSf3 data, .wrSf4 data, .wrSf5 data]

theorem misaligned_fragOffset (k : Fin 6) : (fragOffset k).misaligned = false := by
  decide +revert

theorem decodesRead_rdSf (k : Fin 6) : DecodesRead (fragOffset k) (rdSf k) :=
  decodesRead_of_row (misaligned_fragOffset k) (by fin_cases k <;> rfl)

theorem decodesWrite_wrSf (data : Word) (k : Fin 6) : DecodesWrite (fragOffset k) data (wrSf data k) :=
  decodesWrite_of_row (misaligned_fragOffset k) (by fin_cases k <;> rfl)

theorem exec_rdSf (k : Fin 6) (s : State) : exec (rdSf k) s = afterReset s (.next (s.answer s.frag[k])) := by
  fin_cases k <;> rfl

theorem exec_wrSf (data : Word) (k : Fin 6) (s : State) :
    exec (wrSf data k) s = afterReset s (whenNoJob s (.next (s.storeFrag k data))) := by
  fin_cases k <;> rfl

/-- Settles O17. The six rows are one family over the fragment's index. -/
theorem fragmentWritesStoreWords : Obligations.FragmentWritesStoreWords := by
  unfold Obligations.FragmentWritesStoreWords
  intro data s
  have hdec := decodesWrite_wrSf data
  have hstop : ∀ i ∈ List.ofFn (wrSf data), RefusedUntilReset i s ∧ FaultsOnJob i s :=
    List.forall_mem_ofFn_iff.2 fun k =>
      have he := exec_wrSf data k s
      ⟨refusedUntilReset_of_afterReset he, faultsOnJob_of_whenNoJob he⟩
  refine ⟨⟨hdec 0, hdec 1, hdec 2, hdec 3, hdec 4, hdec 5⟩, hstop, fun hrun hjob => ?_⟩
  have hstore (k : Fin 6) := exec_idle (exec_wrSf data k s) hrun hjob
  exact ⟨hstore 0, hstore 1, hstore 2, hstore 3, hstore 4, hstore 5⟩

/-! ### Fragment 6 -/

theorem exec_rdSf6 (s : State) : exec .rdSf6 s = afterReset s (.next (s.answerNamed fun w =>
    setField (setField w 0 s.frag6Data) 16 (BitVec.ofBool s.frag6Valid))) := rfl

theorem exec_wrSf6 (data : Word) (s : State) : exec (.wrSf6 data) s =
    afterReset s (whenNoJob s (.next (s.storeFrag6 (frag6DataOf data) false))) := rfl

/-- Settles O16. VALID is written last and DATA lies below it; with a job present VALID is 1 by the invariant. -/
theorem readFragmentsReturnWords : Obligations.ReadFragmentsReturnWords := by
  unfold Obligations.ReadFragmentsReturnWords
  intro s
  have hdec := decodesRead_rdSf
  have href (k : Fin 6) := refusedUntilReset_of_afterReset (exec_rdSf k s)
  have he6 := exec_rdSf6 s
  refine ⟨⟨hdec 0, hdec 1, hdec 2, hdec 3, hdec 4, hdec 5, decodesRead_of_row rfl rfl⟩,
    ⟨href 0, href 1, href 2, href 3, href 4, href 5, refusedUntilReset_of_afterReset he6⟩, fun hrun => ?_⟩
  have hread (k : Fin 6) := exec_running (exec_rdSf k s) hrun
  have hvalid (w : Word) : (setField w 16 (BitVec.ofBool s.frag6Valid)).getLsbD 16 = s.frag6Valid :=
    getLsbD_setField_ofBool w 16 s.frag6Valid (by decide)
  refine ⟨hread 0, hread 1, hread 2, hread 3, hread 4, hread 5, _, exec_running he6 hrun,
    State.answerNamed_eq _ _, ?_, hvalid _, fun hc hjob => ?_⟩
  · exact getField_setField_setField _ 0 16 s.frag6Data _ (by decide) (by decide)
  · exact (hvalid _).trans (hc.job_valid (Option.isSome_iff_ne_none.2 hjob))

/-- Settles O18. The row is told apart from the trigger's by `DATA[16]` (30_encoding.md R74). -/
theorem fragment6WriteStoresWithoutTrigger : Obligations.Fragment6WriteStoresWithoutTrigger := by
  unfold Obligations.Fragment6WriteStoresWithoutTrigger
  intro data s
  have he := exec_wrSf6 data s
  exact ⟨fun hbit => decodesWrite_of_row rfl (congrArg Except.ok (fragment6Write_of_not_bit hbit)),
    refusedUntilReset_of_afterReset he, faultsOnJob_of_whenNoJob he, exec_idle he⟩

end Sys2Proof.Machine

/-! PROOFS of the family 'other': the round trip of the encoding, and the boundary. -/

namespace Sys2Proof.Machine

/-! ### Encoded transactions -/

/-- Settles O1. A read's and a write's word decode to the row of their offset; the four constructors told apart by a
data bit are well-formed exactly when that bit is theirs. -/
theorem encodedTransactionsDecodeBack : Obligations.EncodedTransactionsDecodeBack := by
  unfold Obligations.EncodedTransactionsDecodeBack
  intro i h
  cases i with
  | rdSysconfig | rdSysstatus | rdIrqstatus | rdLocationConfig | rdPageCtrl | rdSf0 | rdSf1 | rdSf2 | rdSf3 | rdSf4
  | rdSf5 | rdSf6 | rdLocationStatus => exact decodesRead_of_row rfl rfl 0
  | wrSysstatus _ | wrIrqstatus _ | wrLocationConfig _ | wrPageCtrl _ | wrSf0 _ | wrSf1 _ | wrSf2 _ | wrSf3 _
  | wrSf4 _ | wrSf5 _ | wrLocationStatus _ => exact decodesWrite_of_row rfl rfl
  | wrSysconfigSrst data => exact decodesWrite_of_row rfl (congrArg Except.ok (sysconfigWrite_of_bit h))
  | wrSysconfig data =>
    exact decodesWrite_of_row rfl (congrArg Except.ok (sysconfigWrite_of_not_bit (Bool.not_eq_true' _ ▸ h)))
  | wrSf6 data =>
    exact decodesWrite_of_row rfl (congrArg Except.ok (fragment6Write_of_not_bit (Bool.not_eq_true' _ ▸ h)))
  | wrSf6Trig data => exact decodesWrite_of_row rfl (congrArg Except.ok (fragment6Write_of_bit h))
  | rdErrloc k => exact decodesRead_of_row (misaligned_slotOffset k) (decodeRead_slotOffset k) 0
  | wrErrloc k data => exact decodesWrite_of_row (misaligned_slotOffset k) (decodeWrite_slotOffset k data)

/-- Settles O4. Ten closed words, which the decoder evaluates. -/
theorem listedWordsDecode : Obligations.ListedWordsDecode := by
  unfold Obligations.ListedWordsDecode
  exact ⟨rfl, rfl, rfl, rfl, rfl, rfl, rfl, rfl, rfl, rfl⟩

/-! ### The checks at the boundary -/

theorem misaligned_iff (off : Offset) : off.misaligned = true ↔ off.toNat % 4 ≠ 0 := by
  rw [Offset.misaligned, bne_iff_ne, ne_eq, ← BitVec.toNat_inj, BitVec.extractLsb'_toNat]
  simp

/-- The mapped offsets below the error-location family (20_memory.md R58). -/
def plainOffsets : List Offset :=
  [0x010#12, 0x014#12, 0x018#12, 0x020#12, 0x080#12, 0x400#12, 0x404#12, 0x408#12, 0x40C#12, 0x410#12, 0x414#12,
    0x418#12, 0x800#12]

/-- The map is those offsets and the sixteen slots'. -/
theorem mem_mappedOffsets_iff (off : Offset) :
    off ∈ mappedOffsets ↔ off ∈ plainOffsets ∨ ∃ k, slotOffset k = off := by
  have hmap : mappedOffsets = plainOffsets ++ (List.finRange 16).map fun k => slotOffset (BitVec.ofFin k) := by decide
  rw [hmap, List.mem_append, List.mem_map]
  refine or_congr_right ⟨fun ⟨k, _, h⟩ => ⟨_, h⟩, fun ⟨k, h⟩ => ⟨k.toFin, List.mem_finRange _, h⟩⟩

theorem not_misaligned_of_mem_mappedOffsets {off : Offset} (h : off ∈ mappedOffsets) : off.misaligned = false := by
  obtain h | ⟨k, rfl⟩ := (mem_mappedOffsets_iff off).1 h
  · have hall : plainOffsets.all (fun off => !off.misaligned) = true := rfl
    simpa using List.all_eq_true.1 hall off h
  · exact misaligned_slotOffset k

theorem not_plain_not_errloc {off : Offset} (ha : off.misaligned = false) (h : off ∉ mappedOffsets) :
    off ∉ plainOffsets ∧ off.isErrloc = false := by
  rw [mem_mappedOffsets_iff, not_or] at h
  refine ⟨h.1, Bool.eq_false_iff.2 fun he => h.2 ⟨_, slotOffset_slot off he ha⟩⟩

/-- An answer that is no error is an instruction. -/
theorem exists_of_isOk {r : Except DecodeError Instr} (h : r.isOk = true) : ∃ i, r = .ok i := by
  cases r with
  | ok i => exact ⟨i, rfl⟩
  | error e => cases h

theorem decodeRead_mapped {off : Offset} (h : off ∈ mappedOffsets) : ∃ i, decodeRead off = .ok i := by
  obtain h | ⟨k, rfl⟩ := (mem_mappedOffsets_iff off).1 h
  · have hall : plainOffsets.all (fun off => (decodeRead off).isOk) = true := rfl
    exact exists_of_isOk (List.all_eq_true.1 hall off h)
  · exact ⟨_, decodeRead_slotOffset k⟩

theorem decodeWrite_mapped {off : Offset} (data : Word) (h : off ∈ mappedOffsets) :
    ∃ i, decodeWrite off data = .ok i := by
  obtain h | ⟨k, rfl⟩ := (mem_mappedOffsets_iff off).1 h
  · have hall : plainOffsets.all (fun off => (decodeWrite off data).isOk) = true := rfl
    exact exists_of_isOk (List.all_eq_true.1 hall off h)
  · exact ⟨_, decodeWrite_slotOffset k data⟩

theorem decodeRead_unmapped {off : Offset} (ha : off.misaligned = false) (h : off ∉ mappedOffsets) :
    decodeRead off = .error .unmapped := by
  obtain ⟨hplain, he⟩ := not_plain_not_errloc ha h
  simp only [plainOffsets, List.mem_cons, not_or] at hplain
  simp only [decodeRead, hplain, he, if_false, Bool.false_eq_true]

theorem decodeWrite_unmapped {off : Offset} (data : Word) (ha : off.misaligned = false) (h : off ∉ mappedOffsets) :
    decodeWrite off data = .error .unmapped := by
  obtain ⟨hplain, he⟩ := not_plain_not_errloc ha h
  simp only [plainOffsets, List.mem_cons, not_or] at hplain
  simp only [decodeWrite, hplain, he, if_false, Bool.false_eq_true]

/-- An aligned word is decoded by the table of its direction. -/
theorem decode_aligned {t : Transaction} (ha : t.offset.misaligned = false) :
    decode t = if t.isWrite then decodeWrite t.offset t.data else decodeRead t.offset := by
  simp only [decode, ha, Bool.false_eq_true, if_false]

/-- Settles O3. The three checks are the decoder's nested tests; an aligned offset has a row in both tables exactly
when it is in the map. -/
theorem boundaryChecksInOrder : Obligations.BoundaryChecksInOrder := by
  unfold Obligations.BoundaryChecksInOrder
  rintro ⟨width, t⟩
  refine ⟨fun hw => ?_, ?_, ?_, ?_⟩
  · cases width with
    | byte | half => rfl
    | word => exact absurd rfl hw
  · rintro rfl ha
    exact if_pos ((misaligned_iff _).2 ha)
  · rintro rfl ha hmap
    have ha : t.offset.misaligned = false := by
      rw [← Bool.not_eq_true, misaligned_iff]; exact not_not.2 ha
    refine (decode_aligned ha).trans ?_
    cases t.isWrite
    · exact decodeRead_unmapped ha hmap
    · exact decodeWrite_unmapped _ ha hmap
  · rintro rfl hmap
    have ha := not_misaligned_of_mem_mappedOffsets hmap
    show ∃ i, decode t = .ok i
    rw [decode_aligned ha]
    cases t.isWrite
    · exact decodeRead_mapped hmap
    · exact decodeWrite_mapped _ hmap

end Sys2Proof.Machine

/-! PROOFS of the family 'other': the register transactions one by one (40_bus_register_access.md sections 1 to 8). -/

namespace Sys2Proof.Machine

/-! ### SYSCONFIG -/

/-- What RD.SYSCONFIG makes of the free word `w` (R100). -/
def sysconfigWord (s : State) (w : Word) : Word :=
  if s.poweredUnreset then w else setField (setField w 1 (0 : BitVec 1)) 3 s.idleMode

theorem exec_rdSysconfig (s : State) :
    exec .rdSysconfig s = unlessResetting s (.next (s.answerNamed (sysconfigWord s))) := rfl

theorem exec_wrSysconfigSrst (data : Word) (s : State) :
    exec (.wrSysconfigSrst data) s = unlessResetting s (whenNoJob s (.next s.startReset)) := rfl

theorem exec_wrSysconfig (data : Word) (s : State) :
    exec (.wrSysconfig data) s = afterReset s (.next (s.storeIdleMode (idleModeOf data))) := rfl

theorem unlessResetting_pending {s : State} (r : Result) (h : s.resetPending = true) :
    unlessResetting s r = .refused .duringReset := if_pos h

theorem sysconfigWord_powered {s : State} (w : Word) (h : s.poweredUnreset = true) : sysconfigWord s w = w :=
  if_pos h

theorem sysconfigWord_unpowered {s : State} (w : Word) (h : s.poweredUnreset = false) :
    sysconfigWord s w = setField (setField w 1 (0 : BitVec 1)) 3 s.idleMode :=
  if_neg (Bool.eq_false_iff.1 h)

/-- SOFTRESET reads 0 under the IDLEMODE field above it. -/
theorem sysconfigWord_softReset {s : State} (w : Word) (h : s.poweredUnreset = false) :
    (sysconfigWord s w).getLsbD 1 = false := by
  rw [sysconfigWord_unpowered w h, getLsbD_setField_outside _ 3 1 _ (by decide) (.inl (by decide))]
  exact getLsbD_setField_ofBool w 1 false (by decide)

theorem sysconfigWord_idleMode {s : State} (w : Word) (h : s.poweredUnreset = false) :
    getField (sysconfigWord s w) 3 2 = s.idleMode := by
  rw [sysconfigWord_unpowered w h]
  exact getField_setField _ 3 s.idleMode (by decide)

/-- Settles O5. The read is admitted unless a reset is pending; IDLEMODE is written into the free word last. -/
theorem readSysconfigReturnsIdleMode : Obligations.ReadSysconfigReturnsIdleMode := by
  unfold Obligations.ReadSysconfigReturnsIdleMode
  intro s
  refine ⟨decodesRead_of_row rfl rfl, unlessResetting_pending _, fun hr =>
    ⟨_, (exec_rdSysconfig s).trans (unlessResetting_running s _ hr), State.answerNamed_eq _ _, ?_, fun hp => ⟨?_, ?_⟩⟩⟩
  · exact sysconfigWord_powered _
  · exact sysconfigWord_softReset _ hp
  · exact sysconfigWord_idleMode _ hp

/-- Settles O6. Admission comes before the overlap check, so a pending reset refuses whether or not a job is present. -/
theorem softResetWriteStartsReset : Obligations.SoftResetWriteStartsReset := by
  unfold Obligations.SoftResetWriteStartsReset
  intro data s
  have he (hr : s.resetPending = false) := (exec_wrSysconfigSrst data s).trans (unlessResetting_running s _ hr)
  refine ⟨fun hbit => decodesWrite_of_row rfl (congrArg Except.ok (sysconfigWrite_of_bit hbit)),
    unlessResetting_pending _, fun hr hjob => ?_, fun hr hjob => ?_⟩
  · obtain ⟨j, hj⟩ := Option.ne_none_iff_exists'.1 hjob
    exact (he hr).trans (whenNoJob_some s _ j hj)
  · exact (he hr).trans (whenNoJob_none s _ hjob)

/-- Settles O7. The arm has no overlap check, so a job makes no difference. -/
theorem sysconfigWriteStoresIdleMode : Obligations.SysconfigWriteStoresIdleMode := by
  unfold Obligations.SysconfigWriteStoresIdleMode
  intro data s
  have he := exec_wrSysconfig data s
  exact ⟨fun hbit => decodesWrite_of_row rfl (congrArg Except.ok (sysconfigWrite_of_not_bit hbit)),
    refusedUntilReset_of_afterReset he, exec_running he⟩

/-! ### IRQSTATUS -/

theorem exec_rdIrqstatus (s : State) : exec .rdIrqstatus s =
    afterReset s (.next (s.answerNamed fun w => setField w 0 (BitVec.ofBool s.done0))) := rfl

theorem exec_wrIrqstatus (data : Word) (s : State) :
    exec (.wrIrqstatus data) s = afterReset s (.next (s.acknowledge data)) := rfl

theorem doneAfterWrite_eq (done0 : Bool) (data : Word) :
    doneAfterWrite done0 data = if data.getLsbD 0 = true then false else done0 := by
  unfold doneAfterWrite
  cases data.getLsbD 0 <;> simp

/-- Settles O9. The answer overwrites bit 0 of a free word with DONE0 and stores nothing. -/
theorem readIrqstatusReturnsDone : Obligations.ReadIrqstatusReturnsDone := by
  unfold Obligations.ReadIrqstatusReturnsDone
  intro s
  have he := exec_rdIrqstatus s
  exact ⟨decodesRead_of_row rfl rfl, refusedUntilReset_of_afterReset he, fun hrun =>
    ⟨_, exec_running he hrun, State.answerNamed_eq _ _, getLsbD_setField_ofBool _ 0 s.done0 (by decide)⟩⟩

/-- Settles O10. `DONE0 & ~DATA[0]` read as a choice on `DATA[0]`. -/
theorem irqstatusWriteOneClears : Obligations.IrqstatusWriteOneClears := by
  unfold Obligations.IrqstatusWriteOneClears
  intro data s
  have he := exec_wrIrqstatus data s
  refine ⟨decodesWrite_of_row rfl rfl, refusedUntilReset_of_afterReset he, fun hrun => ?_⟩
  rw [exec_running he hrun, State.acknowledge, doneAfterWrite_eq]

/-! ### LOCATION_CONFIG and PAGE_CTRL -/

theorem exec_wrPageCtrl (data : Word) (s : State) :
    exec (.wrPageCtrl data) s = afterReset s (whenNoJob s (.next (s.storePageMode data))) := rfl

/-- The write of `configure` stores the strength's code and `BUF_SIZE`. -/
theorem exec_wrLocationConfig_configValue (strength : Strength) {s : State} (hrun : Running s) (hjob : s.job = none) :
    exec (.wrLocationConfig (configValue strength)) s = .next (s.storeConfig (codeOf strength) bufSize) := by
  rw [exec_idle (exec_wrLocationConfig _ s) hrun hjob, levelOf_configValue, bufferSizeOf_configValue]

/-- Settles O13. The second write stores what the first one stored, and the read names both fields. -/
theorem configureReadsBack : Obligations.ConfigureReadsBack := by
  unfold Obligations.ConfigureReadsBack
  intro strength s hrun hjob
  refine ⟨s.storeConfig (codeOf strength) bufSize, _, exec_wrLocationConfig_configValue strength hrun hjob,
    exec_wrLocationConfig_configValue (s := s.storeConfig _ _) strength hrun hjob,
    exec_running (exec_rdLocationConfig _) hrun, ?_, ?_⟩
  · exact getField_setField_setField _ 0 16 (codeOf strength) bufSize (by decide) (by decide)
  · exact getField_setField _ 16 bufSize (by decide)

/-- Settles O15. With both checks passed, the arm is `storePageMode` of the whole word. -/
theorem pageCtrlWriteStoresMode : Obligations.PageCtrlWriteStoresMode := by
  unfold Obligations.PageCtrlWriteStoresMode
  intro data s
  have he := exec_wrPageCtrl data s
  exact ⟨decodesWrite_of_row rfl rfl, refusedUntilReset_of_afterReset he, faultsOnJob_of_whenNoJob he, exec_idle he⟩

/-! ### The trigger -/

theorem exec_wrSf6Trig (data : Word) (s : State) : exec (.wrSf6Trig data) s =
    afterReset s (whenNoJob s (whenTriggerable s (.next (s.storeFrag6 (frag6DataOf data) true).createJob))) := rfl

theorem whenTriggerable_reserved {s : State} (r : Result) (h : strengthOf s.level = none) :
    whenTriggerable s r = .fault .reservedLevel := by
  simp [whenTriggerable, h]

theorem whenTriggerable_pageMode {s : State} (r : Result) (hl : strengthOf s.level ≠ none) (hm : s.pageMode ≠ 0) :
    whenTriggerable s r = .refused .pageMode := by
  simp only [whenTriggerable, Option.isNone_iff_eq_none, if_neg hl, if_pos hm]

/-- A trigger on an idle engine at a strength's code in continuous mode stores its data and starts the job. -/
theorem exec_wrSf6Trig_starts (data : Word) {s : State} (hrun : Running s) (hjob : s.job = none)
    (hl : strengthOf s.level ≠ none) (hm : s.pageMode = 0) :
    exec (.wrSf6Trig data) s = .next (s.storeFrag6 (frag6DataOf data) true).createJob :=
  (exec_idle (exec_wrSf6Trig data s) hrun hjob).trans
    (whenTriggerable_ok s _ (Option.isSome_iff_ne_none.2 hl) hm)

/-- Settles O19. The arm is its four checks in order around one store and one sampling of the operands. -/
theorem triggerStartsDecodeOfSampledOperands : Obligations.TriggerStartsDecodeOfSampledOperands := by
  unfold Obligations.TriggerStartsDecodeOfSampledOperands
  intro data s
  have he := exec_wrSf6Trig data s
  refine ⟨fun hbit => decodesWrite_of_row rfl (congrArg Except.ok (fragment6Write_of_bit hbit)),
    refusedUntilReset_of_afterReset he, faultsOnJob_of_whenNoJob he, fun hrun hjob hl => ?_,
    fun hrun hjob hl hm => ?_, fun hrun hjob hl hm => ?_⟩
  · exact (exec_idle he hrun hjob).trans (whenTriggerable_reserved _ hl)
  · exact (exec_idle he hrun hjob).trans (whenTriggerable_pageMode _ hl hm)
  · exact exec_wrSf6Trig_starts data hrun hjob hl hm

/-! ### Results -/

/-- What RD.LOCATION_STATUS makes of the free word `w` (R122). -/
def locationStatusWord (s : State) (w : Word) : Word :=
  if s.job.isSome then w else setField (setField w 8 (BitVec.ofBool s.correctable)) 0 s.nbErrors

theorem exec_rdLocationStatus (s : State) :
    exec .rdLocationStatus s = afterReset s (.next (s.answerNamed (locationStatusWord s))) := rfl

theorem locationStatusWord_busy {s : State} (w : Word) (h : s.job ≠ none) : locationStatusWord s w = w :=
  if_pos (Option.isSome_iff_ne_none.2 h)

theorem locationStatusWord_idle {s : State} (w : Word) (h : s.job = none) :
    locationStatusWord s w = setField (setField w 8 (BitVec.ofBool s.correctable)) 0 s.nbErrors := by
  simp [locationStatusWord, h]

/-- CORRECTABLE reads above the count written below it. -/
theorem locationStatusWord_correctable {s : State} (w : Word) (h : s.job = none) :
    (locationStatusWord s w).getLsbD 8 = s.correctable := by
  rw [locationStatusWord_idle w h, getLsbD_setField_outside _ 0 8 _ (by decide) (.inr (by decide))]
  exact getLsbD_setField_ofBool w 8 s.correctable (by decide)

theorem locationStatusWord_count {s : State} (w : Word) (h : s.job = none) :
    getField (locationStatusWord s w) 0 5 = s.nbErrors := by
  rw [locationStatusWord_idle w h]
  exact getField_setField _ 0 s.nbErrors (by decide)

/-- Settles O20. With a job present the word is wholly free, else the two fields are named in it. -/
theorem readLocationStatusReturnsVerdict : Obligations.ReadLocationStatusReturnsVerdict := by
  unfold Obligations.ReadLocationStatusReturnsVerdict
  intro s
  have he := exec_rdLocationStatus s
  refine ⟨decodesRead_of_row rfl rfl, refusedUntilReset_of_afterReset he, fun hrun =>
    ⟨_, exec_running he hrun, State.answerNamed_eq _ _, ?_, fun hjob => ⟨?_, ?_⟩⟩⟩
  · exact locationStatusWord_busy _
  · exact locationStatusWord_correctable _ hjob
  · exact locationStatusWord_count _ hjob

/-- What RD.ERRLOC makes of the free word `w` (R124). -/
def errlocWord (i : BitVec 4) (s : State) (w : Word) : Word :=
  if s.job.isSome then w else setField w 0 (s.errLoc[i.toFin])

theorem exec_rdErrloc (i : BitVec 4) (s : State) :
    exec (.rdErrloc i) s = afterReset s (.next (s.answerNamed (errlocWord i s))) := rfl

theorem errlocWord_busy {s : State} (i : BitVec 4) (w : Word) (h : s.job ≠ none) : errlocWord i s w = w :=
  if_pos (Option.isSome_iff_ne_none.2 h)

theorem errlocWord_position {s : State} (i : BitVec 4) (w : Word) (h : s.job = none) :
    getField (errlocWord i s w) 0 13 = s.errLoc[i.toFin] := by
  have hword : errlocWord i s w = setField w 0 (s.errLoc[i.toFin]) := by simp [errlocWord, h]
  rw [hword]
  exact getField_setField w 0 (s.errLoc[i.toFin]) (by decide)

/-- The slot's offset as the spec writes it (30_encoding.md R73). -/
theorem slotOffset_eq (i : BitVec 4) : 0x880 + 4 * i.setWidth 12 = slotOffset i := by
  decide +revert

/-- Settles O21. Slot `i` stands at `0x880 + 4*i`, whose row carries `i` in OFF[5:2]. -/
theorem readErrorLocationReturnsSlot : Obligations.ReadErrorLocationReturnsSlot := by
  unfold Obligations.ReadErrorLocationReturnsSlot
  intro i s
  have he := exec_rdErrloc i s
  rw [slotOffset_eq]
  exact ⟨decodesRead_of_row (misaligned_slotOffset i) (decodeRead_slotOffset i), refusedUntilReset_of_afterReset he,
    fun hrun => ⟨_, exec_running he hrun, State.answerNamed_eq _ _, errlocWord_busy i _, errlocWord_position i _⟩⟩

/-- The arm of a write to a register the engine alone writes (R104, R123, R125). -/
theorem exec_of_writesReadOnly {i : Instr} (s : State) (h : writesReadOnly i = true) :
    exec i s = afterReset s (.refused .readOnly) := by
  cases i with
  | wrSysstatus _ | wrLocationStatus _ | wrErrloc _ _ => rfl
  | _ => cases h

/-- Settles O22. The three arms are one: the reset state is checked and the write refused. -/
theorem readOnlyWritesAreRefused : Obligations.ReadOnlyWritesAreRefused := by
  unfold Obligations.ReadOnlyWritesAreRefused
  intro i data s
  rw [slotOffset_eq]
  refine ⟨⟨decodesWrite_of_row rfl rfl, decodesWrite_of_row rfl rfl,
    decodesWrite_of_row (misaligned_slotOffset i) (decodeWrite_slotOffset i data)⟩, ?_⟩
  have hstop {w : Instr} (hw : writesReadOnly w = true) :
      RefusedUntilReset w s ∧ (Running s → exec w s = .refused .readOnly) :=
    have he := exec_of_writesReadOnly s hw
    ⟨refusedUntilReset_of_afterReset he, exec_running he⟩
  simp only [List.forall_mem_cons]
  exact ⟨hstop rfl, hstop rfl, hstop rfl, by simp⟩

end Sys2Proof.Machine

/-! PROOFS of the family 'other': admission, and what holds of every transaction (40_bus_register_access.md section 9,
10_state.md sections 4 to 6). -/

namespace Sys2Proof.Machine

/-! ### Admission -/

/-- Every transaction but the three that R127 names is behind the full reset check. -/
theorem exec_eq_afterReset {i : Instr} (s : State) (hc : i ≠ .rdSysconfig) (hs : i ≠ .rdSysstatus)
    (hr : ∀ data, i ≠ .wrSysconfigSrst data) : ∃ r, exec i s = afterReset s r := by
  cases i with
  | rdSysconfig => exact absurd rfl hc
  | rdSysstatus => exact absurd rfl hs
  | wrSysconfigSrst data => exact absurd rfl (hr data)
  | _ => exact ⟨_, rfl⟩

/-- RD.SYSSTATUS alone is admitted while a reset is pending. -/
theorem exec_pending {i : Instr} {s : State} (hs : i ≠ .rdSysstatus) (hp : s.poweredUnreset = false)
    (hr : s.resetPending = true) : exec i s = .refused .duringReset := by
  by_cases hc : i = .rdSysconfig
  · subst hc; exact unlessResetting_pending _ hr
  by_cases hsrst : ∃ data, i = .wrSysconfigSrst data
  · obtain ⟨data, rfl⟩ := hsrst; exact unlessResetting_pending _ hr
  obtain ⟨r, he⟩ := exec_eq_afterReset s hc hs (not_exists.1 hsrst)
  exact (refusedUntilReset_of_afterReset he).2 hp hr

/-- Settles O23. The three transactions of R127 have their own check; all others share one. -/
theorem admissionFollowsResetState : Obligations.AdmissionFollowsResetState := by
  unfold Obligations.AdmissionFollowsResetState
  intro i s
  refine ⟨fun hp hr hjob => ⟨?_, fun hc hs hsrst => ?_⟩, fun hp hr => ⟨?_, fun hs => exec_pending hs hp hr⟩⟩
  · rintro (rfl | rfl | ⟨data, rfl⟩)
    · exact ⟨_, (exec_rdSysconfig s).trans (unlessResetting_running s _ hr)⟩
    · exact ⟨_, exec_rdSysstatus s⟩
    · exact ⟨_, (exec_wrSysconfigSrst data s).trans ((unlessResetting_running s _ hr).trans (whenNoJob_none s _ hjob))⟩
  · obtain ⟨r, he⟩ := exec_eq_afterReset s hc hs hsrst
    exact (refusedUntilReset_of_afterReset he).1 hp
  · rintro rfl
    exact ⟨_, exec_rdSysstatus s⟩

/-! ### While a job is present -/

/-- Past the resets, a transaction of R126's faulting list is behind the overlap check. -/
theorem exec_eq_whenNoJob {i : Instr} {s : State} (hrun : Running s) (h : disturbsJob i = true) :
    ∃ r, exec i s = whenNoJob s r := by
  cases i with
  | wrSysconfigSrst data => exact ⟨_, (exec_wrSysconfigSrst data s).trans (unlessResetting_running s _ hrun.2)⟩
  | wrLocationConfig _ | wrPageCtrl _ | wrSf0 _ | wrSf1 _ | wrSf2 _ | wrSf3 _ | wrSf4 _ | wrSf5 _ | wrSf6 _
  | wrSf6Trig _ => exact ⟨_, exec_running rfl hrun⟩
  | _ => cases h

/-- Past the resets, a transaction of neither list completes, job or no job. -/
theorem exec_completes {i : Instr} {s : State} (hrun : Running s) (hd : disturbsJob i = false)
    (hw : writesReadOnly i = false) : ∃ t, exec i s = .next t := by
  cases i with
  | rdSysconfig => exact ⟨_, (exec_rdSysconfig s).trans (unlessResetting_running s _ hrun.2)⟩
  | rdSysstatus => exact ⟨_, exec_rdSysstatus s⟩
  | wrSysconfigSrst _ | wrLocationConfig _ | wrPageCtrl _ | wrSf0 _ | wrSf1 _ | wrSf2 _ | wrSf3 _ | wrSf4 _
  | wrSf5 _ | wrSf6 _ | wrSf6Trig _ => cases hd
  | wrSysstatus _ | wrLocationStatus _ | wrErrloc _ _ => cases hw
  | _ => exact ⟨_, exec_running rfl hrun⟩

/-- The job and the registers its operands were sampled from are as they were. -/
structure OperandsKept (s t : State) : Prop where
  job : t.job = s.job
  level : t.level = s.level
  size : t.size = s.size
  pageMode : t.pageMode = s.pageMode
  frag : t.frag = s.frag
  frag6Data : t.frag6Data = s.frag6Data
  frag6Valid : t.frag6Valid = s.frag6Valid

/-- A transaction that completes while a job is present is a read, an IDLEMODE write or an acknowledge. -/
theorem TransactionEffect.operandsKept {s t : State} (h : TransactionEffect s t) (hjob : s.job ≠ none) :
    OperandsKept s t := by
  cases h with
  | answer _ | answerNamed _ | storeIdleMode _ _ | acknowledge _ _ => exact ⟨rfl, rfl, rfl, rfl, rfl, rfl, rfl⟩
  | startReset _ hj | storeConfig _ hj _ _ | storePageMode _ hj _ | storeFrag _ hj _ _ | storeFrag6 _ hj _
  | trigger _ hj _ _ _ => exact absurd hj hjob

/-- Settles O24. The faulting list is the overlap check's; whatever completes keeps the operands. -/
theorem busyEngineAdmitsOnlyHarmlessTransactions : Obligations.BusyEngineAdmitsOnlyHarmlessTransactions := by
  unfold Obligations.BusyEngineAdmitsOnlyHarmlessTransactions
  intro i s j hrun hj
  refine ⟨fun hd => ?_, fun hd hw => ?_⟩
  · obtain ⟨r, he⟩ := exec_eq_whenNoJob hrun hd
    exact he.trans (whenNoJob_some s r j hj)
  · obtain ⟨t, he⟩ := exec_completes hrun hd hw
    have hkept := (exec_effect i s t he).operandsKept (by simp [hj])
    exact ⟨t, he, hkept.job.trans hj, hkept.level, hkept.size, hkept.pageMode, hkept.frag, hkept.frag6Data,
      hkept.frag6Valid⟩

/-! ### What each transaction does when it completes -/

/-- The register operation of each transaction that completes: a read's is the read port's, a write's its own. -/
inductive Completes (s : State) : Instr → State → Prop where
  | read {i : Instr} {t : State} (hi : IsRead i) (h : OnlyReadPort s t) : Completes s i t
  | softReset (data : Word) : Completes s (.wrSysconfigSrst data) s.startReset
  | sysconfig (data : Word) : Completes s (.wrSysconfig data) (s.storeIdleMode (idleModeOf data))
  | irqstatus (data : Word) : Completes s (.wrIrqstatus data) (s.acknowledge data)
  | locationConfig (data : Word) :
      Completes s (.wrLocationConfig data) (s.storeConfig (levelOf data) (bufferSizeOf data))
  | pageCtrl (data : Word) : Completes s (.wrPageCtrl data) (s.storePageMode data)
  | fragment (k : Fin 6) (data : Word) : Completes s (wrSf data k) (s.storeFrag k data)
  | fragment6 (data : Word) : Completes s (.wrSf6 data) (s.storeFrag6 (frag6DataOf data) false)
  | trigger (data : Word) : Completes s (.wrSf6Trig data) (s.storeFrag6 (frag6DataOf data) true).createJob

theorem onlyReadPort_of_afterReset {s t u : State} (h : afterReset s (.next u) = .next t) (hu : OnlyReadPort s u) :
    OnlyReadPort s t := by
  obtain ⟨-, -, h⟩ := (afterReset_eq_next _ _ _).1 h
  cases h
  exact hu

/-- A read that completes, in any reset state, moves the read port only. -/
theorem onlyReadPort_of_read {i : Instr} {s t : State} (hi : IsRead i) (h : exec i s = .next t) :
    OnlyReadPort s t := by
  cases i with
  | rdSysconfig =>
    obtain ⟨-, h⟩ := (unlessResetting_eq_next _ _ _).1 h
    cases h; rfl
  | rdSysstatus => cases h; rfl
  | rdIrqstatus | rdLocationConfig | rdPageCtrl | rdSf0 | rdSf1 | rdSf2 | rdSf3 | rdSf4 | rdSf5 | rdSf6
  | rdLocationStatus | rdErrloc _ => exact onlyReadPort_of_afterReset h rfl
  | _ => simp [IsRead, encode] at hi

/-- A guarded write that completes does what it does behind its two checks. -/
theorem eq_of_guarded_write {s t u : State} (h : afterReset s (whenNoJob s (.next u)) = .next t) : u = t := by
  obtain ⟨-, -, h⟩ := (afterReset_eq_next _ _ _).1 h
  obtain ⟨-, h⟩ := (whenNoJob_eq_next _ _ _).1 h
  cases h
  rfl

theorem eq_of_admitted_write {s t u : State} (h : afterReset s (.next u) = .next t) : u = t := by
  obtain ⟨-, -, h⟩ := (afterReset_eq_next _ _ _).1 h
  cases h
  rfl

/-- A write to a register the engine alone writes does not complete. -/
theorem not_completes_of_writesReadOnly {i : Instr} {s t : State} (hw : writesReadOnly i = true) :
    exec i s ≠ .next t := by
  intro h
  rw [exec_of_writesReadOnly s hw, afterReset_eq_next] at h
  cases h.2.2

/-- Whatever completes did its own register operation. -/
theorem completes_of_exec {i : Instr} {s t : State} (h : exec i s = .next t) : Completes s i t := by
  by_cases hi : IsRead i
  · exact .read hi (onlyReadPort_of_read hi h)
  cases i with
  | wrSysconfigSrst data =>
    obtain ⟨-, h⟩ := (unlessResetting_eq_next _ _ _).1 h
    obtain ⟨-, h⟩ := (whenNoJob_eq_next _ _ _).1 h
    cases h; exact .softReset data
  | wrSysconfig data => exact eq_of_admitted_write h ▸ .sysconfig data
  | wrIrqstatus data => exact eq_of_admitted_write h ▸ .irqstatus data
  | wrLocationConfig data => exact eq_of_guarded_write h ▸ .locationConfig data
  | wrPageCtrl data => exact eq_of_guarded_write h ▸ .pageCtrl data
  | wrSf0 data => exact eq_of_guarded_write h ▸ .fragment 0 data
  | wrSf1 data => exact eq_of_guarded_write h ▸ .fragment 1 data
  | wrSf2 data => exact eq_of_guarded_write h ▸ .fragment 2 data
  | wrSf3 data => exact eq_of_guarded_write h ▸ .fragment 3 data
  | wrSf4 data => exact eq_of_guarded_write h ▸ .fragment 4 data
  | wrSf5 data => exact eq_of_guarded_write h ▸ .fragment 5 data
  | wrSf6 data => exact eq_of_guarded_write h ▸ .fragment6 data
  | wrSf6Trig data =>
    obtain ⟨-, -, h⟩ := (afterReset_eq_next _ _ _).1 h
    obtain ⟨-, h⟩ := (whenNoJob_eq_next _ _ _).1 h
    obtain ⟨-, -, h⟩ := (whenTriggerable_eq_next _ _ _).1 h
    cases h; exact .trigger data
  | wrSysstatus _ | wrLocationStatus _ | wrErrloc _ _ => exact absurd h (not_completes_of_writesReadOnly rfl)
  | rdSysconfig | rdSysstatus | rdIrqstatus | rdLocationConfig | rdPageCtrl | rdSf0 | rdSf1 | rdSf2 | rdSf3 | rdSf4
  | rdSf5 | rdSf6 | rdLocationStatus | rdErrloc _ => exact absurd (isWrite_packTransaction 0 _ _) hi

/-- A read is on neither list of R126. -/
theorem harmless_of_read {i : Instr} (hi : IsRead i) : disturbsJob i = false ∧ writesReadOnly i = false := by
  cases i with
  | rdSysconfig | rdSysstatus | rdIrqstatus | rdLocationConfig | rdPageCtrl | rdSf0 | rdSf1 | rdSf2 | rdSf3 | rdSf4
  | rdSf5 | rdSf6 | rdLocationStatus | rdErrloc _ => exact ⟨rfl, rfl⟩
  | _ => simp [IsRead, encode] at hi

/-- Settles O25. A read is a harmless transaction, so it completes, and its operation is the read port's. -/
theorem readsHaveNoSideEffects : Obligations.ReadsHaveNoSideEffects := by
  unfold Obligations.ReadsHaveNoSideEffects
  intro i s hi hrun
  obtain ⟨hd, hw⟩ := harmless_of_read hi
  obtain ⟨t, he⟩ := exec_completes hrun hd hw
  exact ⟨t, he, onlyReadPort_of_read hi he⟩

/-- The read port's move leaves the four flags of 10_state.md R38. -/
theorem onlyReadPort_flags {s t : State} (h : OnlyReadPort s t) :
    t.resetDone = s.resetDone ∧ t.done0 = s.done0 ∧ t.frag6Valid = s.frag6Valid ∧ t.correctable = s.correctable := by
  rw [h]
  exact ⟨rfl, rfl, rfl, rfl⟩

/-- Settles O26. Of the nine register operations one writes RESETDONE, one DONE0, two VALID and none CORRECTABLE. -/
theorem flagsWrittenOnlyByNamedTransactions : Obligations.FlagsWrittenOnlyByNamedTransactions := by
  unfold Obligations.FlagsWrittenOnlyByNamedTransactions
  intro i s t h
  cases completes_of_exec h with
  | read _ hport =>
    obtain ⟨hreset, hdone, hvalid, hcorr⟩ := onlyReadPort_flags hport
    exact ⟨absurd hreset, absurd hdone, absurd hvalid, hcorr⟩
  | softReset data => exact ⟨fun _ => ⟨data, rfl⟩, absurd rfl, absurd rfl, rfl⟩
  | irqstatus data => exact ⟨absurd rfl, fun _ => ⟨data, rfl⟩, absurd rfl, rfl⟩
  | fragment6 data => exact ⟨absurd rfl, absurd rfl, fun _ => ⟨data, .inl rfl⟩, rfl⟩
  | trigger data => exact ⟨absurd rfl, absurd rfl, fun _ => ⟨data, .inr rfl⟩, rfl⟩
  | sysconfig _ | locationConfig _ | pageCtrl _ | fragment _ _ =>
    exact ⟨absurd rfl, absurd rfl, absurd rfl, rfl⟩

/-- The result registers are the engine's alone (10_state.md section 5). -/
theorem TransactionEffect.results_unchanged {s t : State} (h : TransactionEffect s t) :
    t.correctable = s.correctable ∧ t.nbErrors = s.nbErrors ∧ t.errLoc = s.errLoc := by
  cases h with
  | _ => exact ⟨rfl, rfl, rfl⟩

/-- Settles O27. No register operation has a result register among its fields. -/
theorem transactionsLeaveResultsAndSoftwareAlone : Obligations.TransactionsLeaveResultsAndSoftwareAlone := by
  unfold Obligations.TransactionsLeaveResultsAndSoftwareAlone
  intro i s t h
  have heffect := exec_effect i s t h
  obtain ⟨hcorrectable, hcount, hslots⟩ := heffect.results_unchanged
  exact ⟨hcorrectable, hcount, hslots, heffect.softwareUnchanged⟩

/-! ### IDLEMODE -/

/-- Two outcomes that are the same but for IDLEMODE in the next state. -/
inductive SameButIdleMode : Result → Result → Prop where
  | next {t u : State} (h : u = { t with idleMode := u.idleMode }) : SameButIdleMode (.next t) (.next u)
  | fault (r : Fault) : SameButIdleMode (.fault r) (.fault r)
  | refused (r : Refusal) : SameButIdleMode (.refused r) (.refused r)

section
variable {r r' : Result} (s : State) (v : BitVec 2)

/-- A check that both sides make alike. -/
theorem SameButIdleMode.ite {c : Prop} [Decidable c] {a a' : Result} (ha : SameButIdleMode a a')
    (h : SameButIdleMode r r') : SameButIdleMode (if c then a else r) (if c then a' else r') := by
  split
  · exact ha
  · exact h

theorem afterReset_sameButIdleMode (h : SameButIdleMode r r') :
    SameButIdleMode (afterReset s r) (afterReset (s.storeIdleMode v) r') :=
  .ite (.refused _) (.ite (.refused _) h)

theorem unlessResetting_sameButIdleMode (h : SameButIdleMode r r') :
    SameButIdleMode (unlessResetting s r) (unlessResetting (s.storeIdleMode v) r') :=
  .ite (.refused _) h

theorem whenNoJob_sameButIdleMode (h : SameButIdleMode r r') :
    SameButIdleMode (whenNoJob s r) (whenNoJob (s.storeIdleMode v) r') :=
  .ite (.fault _) h

theorem whenTriggerable_sameButIdleMode (h : SameButIdleMode r r') :
    SameButIdleMode (whenTriggerable s r) (whenTriggerable (s.storeIdleMode v) r') :=
  .ite (.fault _) (.ite (.refused _) h)

end

/-- No check and no register operation but RD.SYSCONFIG's answer looks at IDLEMODE. -/
theorem exec_sameButIdleMode {i : Instr} (s : State) (v : BitVec 2) (h : i ≠ .rdSysconfig) :
    SameButIdleMode (exec i s) (exec i (s.storeIdleMode v)) := by
  cases i with
  | rdSysconfig => exact absurd rfl h
  | rdSysstatus => exact .next rfl
  | wrSysconfigSrst _ => exact unlessResetting_sameButIdleMode s v (whenNoJob_sameButIdleMode s v (.next rfl))
  | wrSysstatus _ | wrLocationStatus _ | wrErrloc _ _ => exact afterReset_sameButIdleMode s v (.refused _)
  | wrLocationConfig _ | wrPageCtrl _ | wrSf0 _ | wrSf1 _ | wrSf2 _ | wrSf3 _ | wrSf4 _ | wrSf5 _ | wrSf6 _ =>
    exact afterReset_sameButIdleMode s v (whenNoJob_sameButIdleMode s v (.next rfl))
  | wrSf6Trig _ =>
    exact afterReset_sameButIdleMode s v
      (whenNoJob_sameButIdleMode s v (whenTriggerable_sameButIdleMode s v (.next rfl)))
  | wrSysconfig _ | rdIrqstatus | wrIrqstatus _ | rdLocationConfig | rdPageCtrl | rdSf0 | rdSf1 | rdSf2 | rdSf3
  | rdSf4 | rdSf5 | rdSf6 | rdLocationStatus | rdErrloc _ => exact afterReset_sameButIdleMode s v (.next rfl)

/-- Settles O28. The two outcomes are related, and the relation says of each outcome what is asked. -/
theorem idleModeInfluencesNothingElse : Obligations.IdleModeInfluencesNothingElse := by
  unfold Obligations.IdleModeInfluencesNothingElse
  intro i s v hi
  have hsame : SameButIdleMode (exec i s) (exec i { s with idleMode := v }) := exec_sameButIdleMode s v hi
  refine ⟨fun t h => ?_, fun r h => ?_, fun r h => ?_⟩
  all_goals
    rw [h] at hsame
    generalize exec i { s with idleMode := v } = r' at hsame ⊢
  · cases hsame with
    | next hu => exact ⟨_, rfl, hu⟩
  · cases hsame; rfl
  · cases hsame; rfl

end Sys2Proof.Machine

/-! PROOFS of the family 'other': the engine's own steps (41_engine_steps.md) and one step of the machine. -/

namespace Sys2Proof.Machine

/-! ### The engine's steps -/

/-- A step on a written schedule is its first agent's turn. -/
theorem step_of_turn {s : State} {a : Agent} {ts : List Agent} (hu : Unmarked s) (h : s.turns = a :: ts) :
    step s = .next (agentStep a (s.setTurns ts)) :=
  (step_turn s hu).trans (congrArg _ (turnStep_cons s a ts h))

theorem engineResetStep_pending {s : State} (h : s.resetPending = true) : engineResetStep s = s.completeReset :=
  if_pos h

theorem engineResetStep_idle {s : State} (h : s.resetPending = false) : engineResetStep s = s :=
  if_neg (Bool.eq_false_iff.1 h)

theorem engineDecodeStep_some {s : State} {j : Job} (h : s.job = some j) :
    engineDecodeStep s = s.publish (locate j.level j.size j.syn) := by
  simp [engineDecodeStep, h]

theorem engineDecodeStep_none {s : State} (h : s.job = none) : engineDecodeStep s = s := by
  simp [engineDecodeStep, h]

/-- Settles O29. The turn is the reset completion, whose fields are read off. -/
theorem resetCompletionInitialises : Obligations.ResetCompletionInitialises := by
  unfold Obligations.ResetCompletionInitialises
  intro s ts hu hts hr
  have hstep : step s = .next (s.setTurns ts).completeReset :=
    (step_of_turn hu hts).trans (congrArg _ (engineResetStep_pending hr))
  exact ⟨_, hstep, rfl, rfl, rfl, rfl, rfl, rfl, rfl, rfl, hu, rfl, rfl, rfl, rfl, rfl⟩

/-- The five bits of NB_ERRORS hold any count of locations: there are at most sixteen. -/
theorem countAfter_toNat {locs : List Location} {j : Job} (n : Nat)
    (h : locate j.level j.size j.syn = .correctable locs) : (countAfter (.correctable locs) n).toNat = locs.length := by
  have hle : locs.length ≤ 16 := (locate_length_le _ _ _ _ h).trans (maxLocations_le _)
  exact Nat.mod_eq_of_lt (hle.trans_lt (by decide))

/-- Settles O30. The turn is the publication of the verdict: its count fits the field, and slot `i` holds location `i`. -/
theorem decodeCompletionPublishesVerdict : Obligations.DecodeCompletionPublishesVerdict := by
  unfold Obligations.DecodeCompletionPublishesVerdict
  intro s ts j hu hts hj
  have hstep : step s = .next ((s.setTurns ts).publish (locate j.level j.size j.syn)) :=
    (step_of_turn hu hts).trans (congrArg _ (engineDecodeStep_some hj))
  refine ⟨_, hstep, rfl, rfl, ?_, rfl, rfl, rfl, rfl, rfl, rfl, rfl, rfl, rfl, hu, rfl, rfl, rfl, rfl, rfl⟩
  split
  · next locs hv =>
    rw [hv]
    exact ⟨rfl, countAfter_toNat s.draws hv, slotsOf_getElem locs _⟩
  · next hv => rw [hv]; rfl

/-- Settles O31. An agent that is not enabled leaves the state in which its turn is used up. -/
theorem disabledEngineAgentsDoNothing : Obligations.DisabledEngineAgentsDoNothing := by
  unfold Obligations.DisabledEngineAgentsDoNothing
  intro s ts hu
  exact ⟨fun hts hr => (step_of_turn hu hts).trans (congrArg _ (engineResetStep_idle hr)),
    fun hts hj => (step_of_turn hu hts).trans (congrArg _ (engineDecodeStep_none hj))⟩

/-- CORRECTABLE after a publication says which verdict it was. -/
theorem exists_of_correctableAfter {v : Verdict} (h : correctableAfter v = true) : ∃ locs, v = .correctable locs := by
  cases v with
  | correctable locs => exact ⟨locs, rfl⟩
  | uncorrectable => cases h

/-- Settles O32. Property P1 through the count field. -/
theorem reportedCountWithinStrength : Obligations.ReportedCountWithinStrength := by
  unfold Obligations.ReportedCountWithinStrength
  intro s j strength hj hl hc
  rw [engineDecodeStep_some hj] at hc ⊢
  obtain ⟨locs, hv⟩ := exists_of_correctableAfter hc
  have hlen : locs.length ≤ maxLocations j.level := locate_length_le _ _ _ _ hv
  have hmax : maxLocations j.level = correctableErrors strength := by simp only [maxLocations, hl]
  rw [State.publish_nbErrors, hv, countAfter_toNat _ hv]
  exact ⟨hlen.trans_eq hmax, hlen.trans (maxLocations_le _)⟩

/-- Settles O33. Both machines publish one verdict; count and slots below the count depend on the verdict alone. -/
theorem equalOperandsGiveEqualResults : Obligations.EqualOperandsGiveEqualResults := by
  unfold Obligations.EqualOperandsGiveEqualResults
  intro s u j hs hu
  rw [engineDecodeStep_some hs, engineDecodeStep_some hu]
  refine ⟨rfl, fun hc => ?_⟩
  obtain ⟨locs, hv⟩ := exists_of_correctableAfter hc
  simp only [State.publish_nbErrors, State.publish_errLoc, hv]
  refine ⟨rfl, fun i hi => ?_⟩
  rw [countAfter_toNat _ hv] at hi
  exact (slotsOf_getElem locs _ i hi).trans (slotsOf_getElem locs _ i hi).symm

/-- The acknowledge of 30_encoding.md R78 clears DONE0. -/
theorem exec_acknowledge {s : State} (hrun : Running s) :
    exec (.wrIrqstatus acknowledgeValue) s = .next { s with done0 := false } := by
  rw [exec_running (exec_wrIrqstatus _ s) hrun, State.acknowledge, doneAfterWrite_eq]
  rfl

/-- Settles O34. The acknowledge keeps the job, so the completion after it sets DONE0; in the other order the engine is
past its resets still, and the acknowledge clears what the completion set. -/
theorem acknowledgeAndCompletionInEitherOrder : Obligations.AcknowledgeAndCompletionInEitherOrder := by
  unfold Obligations.AcknowledgeAndCompletionInEitherOrder
  intro s j hrun hj
  constructor
  · refine ⟨_, exec_acknowledge hrun, rfl, ?_⟩
    rw [engineDecodeStep_some (s := { s with done0 := false }) hj]
    rfl
  · rw [engineDecodeStep_some hj]
    exact ⟨_, exec_acknowledge hrun, rfl, rfl⟩

/-! ### One step of the machine -/

/-- Settles O38. `step` looks at the fault's mark, then at the refusal's. -/
theorem markedMachineStops : Obligations.MarkedMachineStops := by
  unfold Obligations.MarkedMachineStops
  intro s
  exact ⟨fun r hf => by simp only [step, hf], fun r hf hr => by simp only [step, hf, hr]⟩

/-- Settles O39. Every agent's turn is a total function. -/
theorem unmarkedMachineSteps : Obligations.UnmarkedMachineSteps := by
  unfold Obligations.UnmarkedMachineSteps
  exact fun s hu => ⟨_, step_turn s hu⟩

/-- The turn of a caller that runs no operation and asks for a bare transaction. -/
theorem step_of_request {s : State} {k : Nat} {ts : List Agent} {c : Caller} {r : BusRequest} {cs : List Command}
    (hu : Unmarked s) (hts : s.turns = .caller k :: ts) (hc : s.callers[k]? = some c) (hcode : c.code = [])
    (hcmd : c.commands = .transaction r :: cs) :
    step s = .next (runRequest k { c with commands := cs } r (s.setTurns ts)) := by
  rw [step_of_turn hu hts]
  simp only [agentStep, callerStep, State.setTurns_callers, hc, hcode, hcmd]

theorem runRequest_error {k : Nat} {c : Caller} {r : BusRequest} {e : DecodeError} (s : State)
    (h : decodeRequest r = .error e) : runRequest k c r s = s.markRefused (refusalOf e) := by
  simp only [runRequest, h]

theorem runRequest_ok {k : Nat} {c : Caller} {r : BusRequest} {i : Instr} (s : State)
    (h : decodeRequest r = .ok i) : runRequest k c r s = issue k c i (afterBare i r.bits.isWrite s) s := by
  simp only [runRequest, h]

theorem issue_fault {k : Nat} {c : Caller} {i : Instr} {after : Word → Caller → Except Fault Caller} {s : State}
    {f : Fault} (h : exec i s = .fault f) : issue k c i after s = s.markFault f := by
  simp only [issue, h]

theorem issue_refused {k : Nat} {c : Caller} {i : Instr} {after : Word → Caller → Except Fault Caller} {s : State}
    {f : Refusal} (h : exec i s = .refused f) : issue k c i after s = s.markRefused f := by
  simp only [issue, h]

/-- Of the state the phase after a transaction takes DONE0 only. -/
theorem phaseAfter_setTurns (i : Instr) (s : State) (ts : List Agent) (w : Word) (p : Phase) :
    phaseAfter i (s.setTurns ts) w p = phaseAfter i s w p := by
  cases i <;> rfl

/-- Settles O35. The turn is the request's, which is `issue` of the decoded transaction in each outcome of `exec`. -/
theorem stepRunsTheDecodedTransaction : Obligations.StepRunsTheDecodedTransaction := by
  unfold Obligations.StepRunsTheDecodedTransaction
  intro s k ts c r cs i hu hts hc hcode hcmd hdec
  rw [step_of_request hu hts hc hcode hcmd, runRequest_ok _ hdec]
  refine ⟨fun t he => ?_, fun f he => ?_, fun f he => ?_⟩
  · rw [issue_next k _ _ i _ (s.setTurns ts) t he rfl, phaseAfter_setTurns]
  · exact congrArg _ (issue_fault he)
  · exact congrArg _ (issue_refused he)

/-- Settles O36. The turn is the request's, and a request that does not decode is marked before anything is run. -/
theorem boundaryRefusalSetsTheMark : Obligations.BoundaryRefusalSetsTheMark := by
  unfold Obligations.BoundaryRefusalSetsTheMark
  intro s k ts c r cs e hu hts hc hcode hcmd hdec
  rw [step_of_request hu hts hc hcode hcmd, runRequest_error _ hdec]
  rfl

/-- The request that a fetched word stands for. -/
def fetchedRequest (nbits w : Nat) : BusRequest := { width := .word, bits := BitVec.ofNat 45 (w % 2 ^ nbits) }

theorem decodeRequest_fetched {nbits w : Nat} {i : Instr} (h : decodeTableWord nbits w = some i) :
    decodeRequest (fetchedRequest nbits w) = .ok i := by
  unfold decodeTableWord at h
  split at h
  · split at h
    · next hdec => exact hdec.trans (congrArg _ (Option.some_inj.1 h))
    · cases h
  · cases h

/-- After the load caller 0 exists and asks for the word first. -/
theorem withFetchWord_caller (s : State) (nbits w : Nat) :
    ∃ c : Caller, (s.withFetchWord nbits w).callers[0]? = some (c.asks (fetchedRequest nbits w)) := by
  cases h : s.callers with
  | nil => exact ⟨Caller.fresh (phaseOf s), by simp [State.withFetchWord, h, callersAsking, fetchedRequest]⟩
  | cons c cs => exact ⟨c, by simp [State.withFetchWord, h, callersAsking, fetchedRequest]⟩

/-- Settles O37. The load puts caller 0's turn first and the word first among its commands; the rest is O35. -/
theorem fetchedWordIsRunNext : Obligations.FetchedWordIsRunNext := by
  unfold Obligations.FetchedWordIsRunNext
  intro s nbits w i hu hdec t he
  obtain ⟨c, hc⟩ := withFetchWord_caller s nbits w
  obtain ⟨hnext, -, -⟩ := stepRunsTheDecodedTransaction (s.withFetchWord nbits w) 0 s.turns _ (fetchedRequest nbits w)
    c.commands i hu rfl hc rfl rfl (decodeRequest_fetched hdec)
  exact ⟨_, hnext t he, rfl⟩

end Sys2Proof.Machine

/-! PROOFS of the family 'other': what every step keeps (10_state.md sections 1, 2, 5 and 8). What a step can do is said
once (`StepEffect`); each invariant is then a case analysis over effects. -/

namespace Sys2Proof.Machine

/-! ### Using up a turn -/

/-- What neither the schedule nor the count of free turns takes part in stays when a turn is used up. -/
theorem afterTurn_project {α : Type} (f : State → α) (hs : ∀ s ts, f (State.setTurns s ts) = f s)
    (hf : ∀ s, f (State.useFreeTurn s) = f s) (s : State) : f (afterTurn s) = f s := by
  unfold afterTurn
  split
  · exact hs _ _
  · exact hf _

@[simp] theorem afterTurn_resetDone (s : State) : (afterTurn s).resetDone = s.resetDone :=
  afterTurn_project _ (fun _ _ => rfl) (fun _ => rfl) s
@[simp] theorem afterTurn_poweredUnreset (s : State) : (afterTurn s).poweredUnreset = s.poweredUnreset :=
  afterTurn_project _ (fun _ _ => rfl) (fun _ => rfl) s
@[simp] theorem afterTurn_resetPending (s : State) : (afterTurn s).resetPending = s.resetPending :=
  afterTurn_project _ (fun _ _ => rfl) (fun _ => rfl) s
@[simp] theorem afterTurn_job (s : State) : (afterTurn s).job = s.job :=
  afterTurn_project _ (fun _ _ => rfl) (fun _ => rfl) s
@[simp] theorem afterTurn_level (s : State) : (afterTurn s).level = s.level :=
  afterTurn_project _ (fun _ _ => rfl) (fun _ => rfl) s
@[simp] theorem afterTurn_size (s : State) : (afterTurn s).size = s.size :=
  afterTurn_project _ (fun _ _ => rfl) (fun _ => rfl) s
@[simp] theorem afterTurn_pageMode (s : State) : (afterTurn s).pageMode = s.pageMode :=
  afterTurn_project _ (fun _ _ => rfl) (fun _ => rfl) s
@[simp] theorem afterTurn_frag (s : State) : (afterTurn s).frag = s.frag :=
  afterTurn_project _ (fun _ _ => rfl) (fun _ => rfl) s
@[simp] theorem afterTurn_frag6Data (s : State) : (afterTurn s).frag6Data = s.frag6Data :=
  afterTurn_project _ (fun _ _ => rfl) (fun _ => rfl) s
@[simp] theorem afterTurn_frag6Valid (s : State) : (afterTurn s).frag6Valid = s.frag6Valid :=
  afterTurn_project _ (fun _ _ => rfl) (fun _ => rfl) s
@[simp] theorem afterTurn_instances (s : State) : (afterTurn s).instances = s.instances :=
  afterTurn_project _ (fun _ _ => rfl) (fun _ => rfl) s
@[simp] theorem afterTurn_registry (s : State) : (afterTurn s).registry = s.registry :=
  afterTurn_project _ (fun _ _ => rfl) (fun _ => rfl) s
@[simp] theorem afterTurn_callers (s : State) : (afterTurn s).callers = s.callers :=
  afterTurn_project _ (fun _ _ => rfl) (fun _ => rfl) s

/-! ### What a step can do -/

/-- Everything a step can have done: the turn of `turnOf s`, moving where the turn is used up. -/
inductive StepEffect (s : State) : State → Prop where
  | caller {k : Nat} {t : State} (hturn : turnOf s = .caller k) (h : CallerEffect k (afterTurn s) t) : StepEffect s t
  | resetDone (hturn : turnOf s = .engineReset) (h : s.resetPending = true) : StepEffect s (afterTurn s).completeReset
  | decodeDone {j : Job} (hturn : turnOf s = .engineDecode) (h : s.job = some j) :
      StepEffect s ((afterTurn s).publish (locate j.level j.size j.syn))
  | resetIdle (hturn : turnOf s = .engineReset) (h : s.resetPending = false) : StepEffect s (afterTurn s)
  | decodeIdle (hturn : turnOf s = .engineDecode) (h : s.job = none) : StepEffect s (afterTurn s)

/-- Every next state of `step` is one of these effects. -/
theorem step_effect {s t : State} (h : step s = .next t) : StepEffect s t := by
  obtain ⟨-, -, rfl⟩ := (step_eq_next s t).1 h
  unfold turnStep
  cases hturn : turnOf s with
  | caller k => exact .caller hturn (callerStep_effect k _)
  | engineReset =>
    show StepEffect s (engineResetStep (afterTurn s))
    obtain ⟨hr, he⟩ | ⟨hr, he⟩ := engineResetStep_cases (afterTurn s)
    · rw [he]; exact .resetDone hturn (by simpa using hr)
    · rw [he]; exact .resetIdle hturn (by simpa using hr)
  | engineDecode =>
    show StepEffect s (engineDecodeStep (afterTurn s))
    obtain ⟨j, hj, he⟩ | ⟨hj, he⟩ := engineDecodeStep_cases (afterTurn s)
    · rw [he]; exact .decodeDone hturn (by simpa using hj)
    · rw [he]; exact .decodeIdle hturn (by simpa using hj)

end Sys2Proof.Machine

namespace Sys2Proof

open Machine

/-! ### The engine's consistency -/

/-- Consistency is about five fields. -/
theorem Consistent.of_eq {s t : State} (hc : Consistent s) (hp : t.poweredUnreset = s.poweredUnreset)
    (hr : t.resetPending = s.resetPending) (hj : t.job = s.job) (hd : t.resetDone = s.resetDone)
    (hv : t.frag6Valid = s.frag6Valid) : Consistent t where
  resetting_not_powered := by rw [hr, hp]; exact hc.resetting_not_powered
  resetting_no_job := by rw [hr, hj]; exact hc.resetting_no_job
  powered_no_job := by rw [hp, hj]; exact hc.powered_no_job
  resetting_resetDone := by rw [hr, hd]; exact hc.resetting_resetDone
  running_resetDone := by rw [Running, hp, hr, hd]; exact hc.running_resetDone
  job_valid := by rw [hj, hv]; exact hc.job_valid
  job_level := by rw [hj]; exact hc.job_level

/-- With no job, consistency is about the reset flags. -/
theorem Consistent.of_no_job {t : State} (hj : t.job = none)
    (hp : t.resetPending = true → t.poweredUnreset = false ∧ t.resetDone = false)
    (hd : Running t → t.resetDone = true) : Consistent t where
  resetting_not_powered := fun h => (hp h).1
  resetting_no_job := fun _ => hj
  powered_no_job := fun _ => hj
  resetting_resetDone := fun h => (hp h).2
  running_resetDone := hd
  job_valid := fun h => by rw [hj] at h; cases h
  job_level := fun j h => by rw [hj] at h; cases h

/-- In a consistent state a job means that the engine is past its resets (10_state.md R23). -/
theorem Consistent.running_of_job {s : State} (hc : Consistent s) (hj : s.job ≠ none) : Running s := by
  constructor
  · exact Bool.eq_false_iff.2 fun h => hj (hc.powered_no_job h)
  · exact Bool.eq_false_iff.2 fun h => hj (hc.resetting_no_job h)

/-- What neither creates nor ends a job and leaves the reset flags keeps consistency on an idle engine. -/
theorem Consistent.of_idle {s t : State} (hc : Consistent s) (hs : s.job = none) (hj : t.job = s.job)
    (hp : t.poweredUnreset = s.poweredUnreset) (hr : t.resetPending = s.resetPending)
    (hd : t.resetDone = s.resetDone) : Consistent t := by
  refine .of_no_job (hj.trans hs) ?_ ?_
  · rw [hr, hp, hd]; exact fun h => ⟨hc.resetting_not_powered h, hc.resetting_resetDone h⟩
  · rw [Running, hp, hr, hd]; exact hc.running_resetDone

end Sys2Proof

namespace Sys2Proof.Machine

/-! ### Consistency is an invariant -/

theorem TransactionEffect.consistent {s t : State} (h : TransactionEffect s t) (hc : Consistent s) :
    Consistent t := by
  cases h with
  | answer _ | answerNamed _ | storeIdleMode _ _ | acknowledge _ _ | storeConfig _ _ _ _ | storePageMode _ _ _
  | storeFrag _ _ _ _ => exact hc.of_eq rfl rfl rfl rfl rfl
  | startReset _ hj => exact .of_no_job hj (fun _ => ⟨rfl, rfl⟩) (fun h => by cases h.2)
  | storeFrag6 _ hj _ => exact hc.of_idle hj rfl rfl rfl rfl
  | trigger hrun hj hl _ _ =>
    obtain ⟨hp, hr⟩ := hrun
    exact {
      resetting_not_powered := fun _ => hp
      resetting_no_job := fun h => absurd (hr.symm.trans h) (by decide)
      powered_no_job := fun h => absurd (hp.symm.trans h) (by decide)
      resetting_resetDone := fun h => absurd (hr.symm.trans h) (by decide)
      running_resetDone := hc.running_resetDone
      job_valid := fun _ => rfl
      job_level := fun j h => by cases h; exact hl }

theorem CallerEffect.consistent {k : Nat} {s t : State} (h : CallerEffect k s t) (hc : Consistent s)
    (hu : Unmarked t) : Consistent t := by
  cases h with
  | nothing => exact hc
  | software _ | probed _ _ | stored _ _ _ _ | registered _ _ _ => exact hc.of_eq rfl rfl rfl rfl rfl
  | transaction i t _ he => exact ((exec_effect i s t he).consistent hc).of_eq rfl rfl rfl rfl rfl
  | lateFault _ _ r _ | faulted r => simp [Unmarked] at hu
  | refused r => simp [Unmarked] at hu

/-- Settles O40. Each effect either leaves the five fields alone, ends the job, or starts a job past the resets at a
strength's code; the effects that break consistency set a mark. -/
theorem stepKeepsEngineConsistent : Obligations.StepKeepsEngineConsistent := by
  unfold Obligations.StepKeepsEngineConsistent
  intro s t hc hstep hu
  have hturned : Consistent (afterTurn s) := hc.of_eq (by simp) (by simp) (by simp) (by simp) (by simp)
  cases step_effect hstep with
  | caller _ h => exact h.consistent hturned hu
  | resetDone _ _ => exact .of_no_job rfl (fun h => by cases h) (fun _ => rfl)
  | decodeDone _ hj =>
    have hjob : (afterTurn s).job ≠ none := by simp [hj]
    obtain ⟨hp, hr⟩ := hturned.running_of_job hjob
    exact .of_no_job rfl (fun h => absurd (hr.symm.trans h) (by decide)) hturned.running_resetDone
  | resetIdle _ _ | decodeIdle _ _ => exact hturned

/-- Settles O41. Neither state has a job or a pending reset. -/
theorem resetIsConsistent : Obligations.ResetIsConsistent := by
  unfold Obligations.ResetIsConsistent
  exact ⟨.of_no_job rfl (fun h => by cases h) (fun _ => rfl),
    .of_no_job rfl (fun h => by cases h) (fun h => by cases h.1)⟩

/-! ### A job's operands -/

theorem OperandsKept.refl (s : State) : OperandsKept s s := ⟨rfl, rfl, rfl, rfl, rfl, rfl, rfl⟩

/-- An unmarked turn of a caller keeps the job and its operands. -/
theorem CallerEffect.operandsKept {k : Nat} {s t : State} (h : CallerEffect k s t) (hjob : s.job ≠ none)
    (hu : Unmarked t) : OperandsKept s t := by
  cases h with
  | nothing => exact .refl s
  | software _ | probed _ _ | stored _ _ _ _ | registered _ _ _ => exact ⟨rfl, rfl, rfl, rfl, rfl, rfl, rfl⟩
  | transaction i t _ he =>
    obtain ⟨h1, h2, h3, h4, h5, h6, h7⟩ := (exec_effect i s t he).operandsKept hjob
    exact ⟨h1, h2, h3, h4, h5, h6, h7⟩
  | lateFault _ _ r _ | faulted r => simp [Unmarked] at hu
  | refused r => simp [Unmarked] at hu

/-- Settles O42. The reset agent cannot move while a job is present, so only the decode agent's turn changes the job. -/
theorem jobOperandsAreStableUntilCompletion : Obligations.JobOperandsAreStableUntilCompletion := by
  unfold Obligations.JobOperandsAreStableUntilCompletion
  intro s t j hc hj hstep hu
  have hjob : s.job ≠ none := by simp [hj]
  cases step_effect hstep with
  | caller _ h =>
    have hkept := h.operandsKept (by simpa using hjob) hu
    refine ⟨.inl ?_, ?_, ?_, ?_, ?_, ?_⟩
    · simpa [hj] using hkept.job
    · simpa using hkept.level
    · simpa using hkept.size
    · simpa using hkept.pageMode
    · simpa using hkept.frag
    · simpa using hkept.frag6Data
  | resetDone _ hr => exact absurd (hc.resetting_no_job hr) hjob
  | decodeDone hturn _ => exact ⟨.inr ⟨hturn, rfl, rfl⟩, by simp⟩
  | resetIdle _ _ => exact ⟨.inl (by simpa using hj), by simp⟩
  | decodeIdle _ hnone => exact absurd hnone hjob

/-! ### The first reset -/

theorem TransactionEffect.poweredUnreset {s t : State} (h : TransactionEffect s t) (hp : s.poweredUnreset = false) :
    t.poweredUnreset = false := by
  cases h with
  | startReset _ _ => rfl
  | _ => exact hp

theorem CallerEffect.poweredUnreset {k : Nat} {s t : State} (h : CallerEffect k s t)
    (hp : s.poweredUnreset = false) : t.poweredUnreset = false := by
  cases h with
  | transaction i t _ he => exact (exec_effect i s t he).poweredUnreset hp
  | lateFault i t r he => rw [State.markFault_poweredUnreset]; exact (exec_effect i s t he).poweredUnreset hp
  | faulted r => rw [State.markFault_poweredUnreset]; exact hp
  | _ => exact hp

/-- Settles O43. No effect sets the flag; not even an overlapping use's free values touch it. -/
theorem firstResetIsNeverUndone : Obligations.FirstResetIsNeverUndone := by
  unfold Obligations.FirstResetIsNeverUndone
  intro s t hp hstep
  have hturned : (afterTurn s).poweredUnreset = false := by simpa using hp
  cases step_effect hstep with
  | caller _ h => exact h.poweredUnreset hturned
  | resetDone _ _ | decodeDone _ _ | resetIdle _ _ | decodeIdle _ _ => exact hturned

/-! ### The registry and the handles -/

/-- How the registry and the list of `instances` can grow: in front stands what was there, and a new handle names a member
of that list. -/
structure Grows (s t : State) : Prop where
  registry : s.registry <+: t.registry
  bases : s.instances.map Instance.base <+: t.instances.map Instance.base
  handles : ∀ h ∈ t.registry, h ∈ s.registry ∨ h < t.instances.length

/-- What leaves both lists alone. -/
theorem Grows.of_eq {s t : State} (hr : t.registry = s.registry) (hi : t.instances = s.instances) : Grows s t where
  registry := by rw [hr]
  bases := by rw [hi]
  handles := fun h hm => .inl (hr ▸ hm)

/-- A changed strength changes no base. -/
theorem map_base_storeLevel (s : State) (handle : Nat) (level : Strength) :
    (s.storeLevel handle level).instances.map Instance.base = s.instances.map Instance.base := by
  rw [State.storeLevel_instances]
  apply List.ext_getElem?
  intro i
  rw [List.getElem?_map, List.getElem?_map, List.getElem?_modify]
  split <;> cases s.instances[i]? <;> rfl

/-- A transaction leaves both lists alone. -/
theorem grows_of_exec {i : Instr} {s t : State} (h : exec i s = .next t) : Grows s t := by
  obtain ⟨-, -, hi, hr, -⟩ := (exec_effect i s t h).softwareUnchanged
  exact .of_eq hr hi

theorem CallerEffect.grows {k : Nat} {s t : State} (h : CallerEffect k s t) : Grows s t := by
  cases h with
  | nothing | software _ | refused _ => exact .of_eq rfl rfl
  | faulted r => exact .of_eq (State.markFault_registry s r) (State.markFault_instances s r)
  | transaction _ _ _ he =>
    obtain ⟨hr, hb, hh⟩ := grows_of_exec he
    exact ⟨hr, hb, hh⟩
  | lateFault _ t r he =>
    obtain ⟨hr, hb, hh⟩ := grows_of_exec he
    exact ⟨by simpa using hr, by simpa using hb, by simpa using hh⟩
  | probed inst c => exact ⟨List.prefix_rfl, by simp, fun h hm => .inl hm⟩
  | stored handle level c _ =>
    exact ⟨List.prefix_rfl, (map_base_storeLevel s handle level).symm ▸ List.prefix_rfl, fun h hm => .inl hm⟩
  | registered handle c hlt =>
    refine ⟨List.prefix_append _ _, List.prefix_rfl, fun h hm => ?_⟩
    obtain hm | hm := List.mem_append.1 hm
    · exact .inl hm
    · exact .inr (List.mem_singleton.1 hm ▸ hlt)

/-- Every step only grows the two lists. -/
theorem step_grows {s t : State} (h : step s = .next t) : Grows s t := by
  cases step_effect h with
  | caller _ h =>
    obtain ⟨hr, hb, hh⟩ := h.grows
    exact ⟨by simpa using hr, by simpa using hb, by simpa using hh⟩
  | resetDone _ _ | decodeDone _ _ | resetIdle _ _ | decodeIdle _ _ =>
    exact .of_eq (afterTurn_registry s) (afterTurn_instances s)

/-- Settles O44. The prefixes are what a step's growth says. -/
theorem registryIsAppendOnly : Obligations.RegistryIsAppendOnly := by
  unfold Obligations.RegistryIsAppendOnly
  exact ⟨rfl, rfl, fun _ _ h => ⟨(step_grows h).registry, (step_grows h).bases⟩⟩

/-- Settles O57. An old handle still names a member because the list of `instances` never gets shorter. -/
theorem registryNamesInstances : Obligations.RegistryNamesInstances := by
  unfold Obligations.RegistryNamesInstances
  have hempty {s : State} (h : s.registry = []) : HandlesExist s := fun _ hm => by simp [h] at hm
  refine ⟨hempty rfl, hempty rfl, fun s t hs hstep h hm => ?_⟩
  obtain ⟨-, hbases, hhandles⟩ := step_grows hstep
  obtain hold | hnew := hhandles h hm
  · have hlen : s.instances.length ≤ t.instances.length := by simpa using hbases.length_le
    exact (hs h hold).trans_le hlen
  · exact hnew

/-! ### Callers -/

theorem CallerEffect.other_caller {k j : Nat} {s t : State} (h : CallerEffect k s t) (hjk : j ≠ k) :
    t.callers[j]? = s.callers[j]? := by
  have hset (u : State) (c : Caller) : (u.setCaller k c).callers[j]? = u.callers[j]? :=
    List.getElem?_set_ne hjk.symm
  cases h with
  | nothing | refused _ => rfl
  | software _ | probed _ _ | stored _ _ _ _ | registered _ _ _ => exact hset _ _
  | transaction i t c he =>
    obtain ⟨-, -, -, -, hcallers, -⟩ := (exec_effect i s t he).softwareUnchanged
    rw [hset, hcallers]
  | lateFault i t r he =>
    obtain ⟨-, -, -, -, hcallers, -⟩ := (exec_effect i s t he).softwareUnchanged
    rw [State.markFault_callers, hcallers]
  | faulted r => rw [State.markFault_callers]

/-- Settles O45. Every effect of caller `k`'s turn writes at most the caller at place `k`. -/
theorem callersDoNotTouchEachOther : Obligations.CallersDoNotTouchEachOther := by
  unfold Obligations.CallersDoNotTouchEachOther
  intro s t k j hturn hstep hjk
  obtain ⟨-, -, rfl⟩ := (step_eq_next s t).1 hstep
  have heffect : CallerEffect k (afterTurn s) (turnStep s) := by
    rw [turnStep, hturn]; exact callerStep_effect k _
  rw [heffect.other_caller hjk, afterTurn_callers]

/-! ### The engine completes at its agent's turn -/

theorem CallerEffect.schedule {k : Nat} {s t : State} (h : CallerEffect k s t) :
    t.turns = s.turns ∧ t.freeTurns = s.freeTurns := by
  cases h with
  | transaction i t _ he =>
    obtain ⟨-, -, -, -, -, hturns, hfree⟩ := (exec_effect i s t he).softwareUnchanged
    exact ⟨hturns, hfree⟩
  | lateFault i t r he =>
    obtain ⟨-, -, -, -, -, hturns, hfree⟩ := (exec_effect i s t he).softwareUnchanged
    simp [hturns, hfree]
  | faulted r => simp
  | _ => exact ⟨rfl, rfl⟩

/-- A step uses up one turn of the schedule and nothing else of it: the turn after the next is then the next. -/
theorem turnAt_of_step {s t : State} (h : step s = .next t) (n : Nat) : turnAt t n = turnAt s (n + 1) := by
  have hschedule : t.turns = (afterTurn s).turns ∧ t.freeTurns = (afterTurn s).freeTurns := by
    cases step_effect h with
    | caller _ h => exact h.schedule
    | resetDone _ _ | decodeDone _ _ | resetIdle _ _ | decodeIdle _ _ => exact ⟨rfl, rfl⟩
  rw [← turnAt_afterTurn, turnAt, turnAt, hschedule.1, hschedule.2]

/-- What stays pending until it is completed is completed at its agent's turn: `pending` is given up for `done` only,
and at the agent's turn it is. -/
theorem completes_by_turn {pending done : State → Prop} {a : Agent}
    (hkeep : ∀ s t, Consistent s → pending s → step s = .next t → Unmarked t → pending t ∨ done t)
    (hturn : ∀ s t, pending s → turnOf s = a → step s = .next t → done t) (n : Nat) (s : State) (hu : Unmarked s)
    (hc : Consistent s) (hp : pending s) (ha : turnAt s n = a) :
    ∃ m t, m ≤ n + 1 ∧ Host.Core.run core m s = .next t ∧ (Unmarked t → done t) := by
  induction n generalizing s with
  | zero => exact ⟨1, _, le_rfl, core_run_next core 0 s _ (step_turn s hu), fun _ => hturn s _ hp ha (step_turn s hu)⟩
  | succ n ih =>
    have hstep := step_turn s hu
    by_cases hgo : Unmarked (turnStep s) ∧ pending (turnStep s)
    · obtain ⟨hut, hpt⟩ := hgo
      have hct := stepKeepsEngineConsistent s _ hc hstep hut
      obtain ⟨m, t, hm, hrun, hdone⟩ := ih _ hut hct hpt ((turnAt_of_step hstep n).trans ha)
      exact ⟨m + 1, t, by omega, (core_run_next core m s _ hstep).trans hrun, hdone⟩
    · refine ⟨1, _, by omega, core_run_next core 0 s _ hstep, fun hut => ?_⟩
      obtain hpt | hdone := hkeep s _ hc hp hstep hut
      · exact absurd ⟨hut, hpt⟩ hgo
      · exact hdone

/-- A reset is pending until it has completed. -/
theorem resetPending_or_resetDone {s t : State} (hc : Consistent s) (hr : s.resetPending = true)
    (h : step s = .next t) (hu : Unmarked t) : t.resetPending = true ∨ t.resetPending = false ∧ t.resetDone = true := by
  have hct := stepKeepsEngineConsistent s t hc h hu
  have hp := firstResetIsNeverUndone s t (hc.resetting_not_powered hr) h
  cases hrt : t.resetPending
  · exact .inr ⟨rfl, hct.running_resetDone ⟨hp, hrt⟩⟩
  · exact .inl rfl

/-- Settles O56. A pending reset and a job are each given up by completion only, and their agent's turn completes them. -/
theorem engineCompletesAtItsTurn : Obligations.EngineCompletesAtItsTurn := by
  unfold Obligations.EngineCompletesAtItsTurn
  intro s n hu hc
  refine ⟨fun hr ha => ?_, fun hj ha => ?_⟩
  · refine completes_by_turn (pending := fun s => s.resetPending = true)
      (fun s t hc hr h hut => resetPending_or_resetDone hc hr h hut) ?_ n s hu hc hr ha
    intro s t hr hturn hstep
    cases step_effect hstep with
    | resetDone _ _ => exact ⟨rfl, rfl⟩
    | caller hk _ | decodeDone hk _ | decodeIdle hk _ => exact absurd (hk.symm.trans hturn) nofun
    | resetIdle _ hidle => exact absurd (hidle.symm.trans hr) (by decide)
  · refine completes_by_turn (pending := fun s => s.job ≠ none) ?_ ?_ n s hu hc hj ha
    · intro s t hc hj hstep hut
      obtain ⟨j, hj⟩ := Option.ne_none_iff_exists'.1 hj
      obtain ⟨hjob | ⟨-, hdone⟩, -⟩ := jobOperandsAreStableUntilCompletion s t j hc hj hstep hut
      · exact .inl (by simp [hjob])
      · exact .inr hdone
    · intro s t hj hturn hstep
      cases step_effect hstep with
      | decodeDone _ _ => exact ⟨rfl, rfl⟩
      | caller hk _ | resetDone hk _ | resetIdle hk _ => exact absurd (hk.symm.trans hturn) nofun
      | decodeIdle _ hidle => exact absurd hidle hj

end Sys2Proof.Machine

/-! PROOFS of the family 'other': the lines of the host software one by one (42_protocol_operations.md section 2,
43_registry_operations.md), and the races of 70_reset_and_hazards.md section 3. -/

namespace Sys2Proof.Machine

/-! ### The payload's words -/

/-- Four bytes as a little-endian word, most significant byte first (20_memory.md R51). -/
theorem le32_eq_append (b0 b1 b2 b3 : Byte) : le32 b0 b1 b2 b3 = b3 ++ b2 ++ b1 ++ b0 := by
  apply BitVec.eq_of_getLsbD_eq
  intro i hi
  simp only [le32, BitVec.getLsbD_or, BitVec.getLsbD_shiftLeft, BitVec.getLsbD_setWidth, BitVec.getLsbD_append]
  have hbyte (b : Byte) (j : Nat) (hj : 8 ≤ j) : b.getLsbD j = false := BitVec.getLsbD_of_ge b j hj
  by_cases h1 : i < 8
  · simp [h1, hi, show i < 16 by omega, show i < 24 by omega]
  by_cases h2 : i < 16
  · simp [h1, hi, h2, hbyte b0 i (by omega), show i < 24 by omega, show i - 8 < 8 by omega, show i - 8 < 32 by omega]
  by_cases h3 : i < 24
  · simp [h1, hi, h2, h3, hbyte b0 i (by omega), hbyte b1 (i - 8) (by omega), show ¬ i - 8 < 8 by omega,
      show i - 16 < 8 by omega, show i - 16 < 32 by omega, show i - 8 - 8 = i - 16 by omega]
  · simp [h1, hi, h2, h3, hbyte b0 i (by omega), hbyte b1 (i - 8) (by omega), hbyte b2 (i - 16) (by omega),
      show ¬ i - 8 < 8 by omega, show ¬ i - 8 - 8 < 8 by omega, show i - 24 < 32 by omega,
      show i - 8 - 8 - 8 = i - 24 by omega]

/-- Word `k` of the reversed payload below its last word. -/
theorem bufferWord_payload (src : Bch8Payload) (k : Fin 4) (h : k.val < 3) :
    bufferWord (padded (rotate src.toList)) k =
      le32 src[12 - 4 * k.val] src[11 - 4 * k.val] src[10 - 4 * k.val] src[9 - 4 * k.val] := by
  simp only [bufferWord]
  rw [padded_rotate_getElem src _ (by omega), padded_rotate_getElem src _ (by omega),
    padded_rotate_getElem src _ (by omega), padded_rotate_getElem src _ (by omega)]
  congr 2 <;> omega

/-- The last word holds the payload's first byte and three bytes of the buffer's zeros. -/
theorem bufferWord_payload_last (src : Bch8Payload) :
    bufferWord (padded (rotate src.toList)) 3 = src[0].setWidth 32 := by
  have h0 : (padded (rotate src.toList))[12] = src[0] := padded_rotate_getElem src 12 (by decide)
  have hz (i : Nat) (h : 13 ≤ i) (hi : i < 28) := padded_rotate_getElem_of_le src i h hi
  show le32 (padded (rotate src.toList))[12] (padded (rotate src.toList))[13] (padded (rotate src.toList))[14]
    (padded (rotate src.toList))[15] = _
  rw [h0, hz 13 (by decide), hz 14 (by decide), hz 15 (by decide)]
  simp [le32]

/-- Settles O47. A little-endian word is its bytes in reverse, and the buffer holds the payload in reverse. -/
theorem payloadBytesInFragments : Obligations.PayloadBytesInFragments := by
  unfold Obligations.PayloadBytesInFragments
  intro src handle k c s
  refine ⟨rfl, rfl, rfl, rfl, rfl, rfl, ?_, ?_, ?_, ?_, fun p k => le32_eq_append _ _ _ _⟩
  · exact (bufferWord_payload src 0 (by decide)).trans (le32_eq_append _ _ _ _)
  · exact (bufferWord_payload src 1 (by decide)).trans (le32_eq_append _ _ _ _)
  · exact (bufferWord_payload src 2 (by decide)).trans (le32_eq_append _ _ _ _)
  · rw [bufferWord_payload_last]
    have happend : (0#24 ++ src[0] : BitVec 32).toNat = 0 <<< 8 ||| src[0].toNat := BitVec.toNat_append 0#24 src[0]
    exact BitVec.eq_of_toNat_eq (by rw [happend, BitVec.toNat_setWidth_of_le (by decide)]; simp)

/-! ### The races -/

/-- The trigger bit lies above the data field. -/
theorem frag6DataOf_triggerValue (v : Word) : frag6DataOf (triggerValue v) = frag6DataOf v := by
  apply BitVec.eq_of_getLsbD_eq
  intro i hi
  have hbit : (0x00010000#32).getLsbD i = false := by
    revert i; decide
  simp only [frag6DataOf, triggerValue, getField, BitVec.getLsbD_extractLsb', BitVec.getLsbD_or, Nat.zero_add, hbit,
    Bool.or_false]

/-- What RD.SF6 makes of the free word `w` (R111). -/
def fragment6Word (s : State) (w : Word) : Word :=
  setField (setField w 0 s.frag6Data) 16 (BitVec.ofBool s.frag6Valid)

theorem exec_rdSf6_running {s : State} (hrun : Running s) :
    exec .rdSf6 s = .next (s.answerNamed (fragment6Word s)) :=
  exec_running (exec_rdSf6 s) hrun

/-- What `start` writes back is the DATA it read. -/
theorem frag6DataOf_writeBack (s : State) (w : Word) :
    frag6DataOf (triggerValue (fragment6Word s w)) = s.frag6Data :=
  (frag6DataOf_triggerValue _).trans (getField_setField_setField w 0 16 s.frag6Data _ (by decide) (by decide))

/-- Settles O48. The write-back stores the DATA that was read, whatever was written in between. -/
theorem startRestoresOldFragment6 : Obligations.StartRestoresOldFragment6 := by
  unfold Obligations.StartRestoresOldFragment6
  intro s d hrun hjob hl hm
  have hread := exec_rdSf6_running hrun
  have hwrite := exec_idle (exec_wrSf6 d (s.answerNamed (fragment6Word s))) hrun hjob
  have htrig := exec_wrSf6Trig_starts (triggerValue (s.answerNamed (fragment6Word s)).readData)
    (s := (s.answerNamed (fragment6Word s)).storeFrag6 (frag6DataOf d) false) hrun hjob hl hm
  have hdata : frag6DataOf (triggerValue (s.answerNamed (fragment6Word s)).readData) = s.frag6Data :=
    frag6DataOf_writeBack s _
  refine ⟨_, _, _, hread, hwrite, htrig, rfl, hdata, ?_⟩
  rw [State.createJob_job, State.sampledJob, State.storeFrag6_frag6Data, hdata]
  rfl

/-- Settles O49. The second configuration overwrites the first, and every strength's code can be triggered. -/
theorem lastConfigurationDecidesStrength : Obligations.LastConfigurationDecidesStrength := by
  unfold Obligations.LastConfigurationDecidesStrength
  intro s a b d hrun hjob hm
  have hl : strengthOf (codeOf b) ≠ none := by simp
  exact ⟨_, _, _, exec_wrLocationConfig_configValue a hrun hjob,
    exec_wrLocationConfig_configValue (s := s.storeConfig (codeOf a) bufSize) b hrun hjob,
    exec_wrSf6Trig_starts d (s := (s.storeConfig (codeOf a) bufSize).storeConfig (codeOf b) bufSize) hrun hjob hl hm,
    rfl, rfl⟩

/-! ### Lines that need an existing handle -/

theorem withInstance_some {handle : Nat} {s : State} {inst : Instance} (f : Instance → State)
    (h : s.instances[handle]? = some inst) : withInstance handle s f = f inst := by
  simp only [withInstance, h]

theorem withInstance_none {handle : Nat} {s : State} (f : Instance → State) (h : s.instances[handle]? = none) :
    withInstance handle s f = s.markRefused .noSuchInstance := by
  simp only [withInstance, h]

/-- Under an existing handle the strength is stored in place. -/
theorem storeLevel_of_some {handle : Nat} {s : State} {inst : Instance} (level : Strength)
    (h : s.instances[handle]? = some inst) :
    s.storeLevel handle level = { s with instances := s.instances.set handle { inst with level := level } } := by
  obtain ⟨hlt, rfl⟩ := List.getElem?_eq_some_iff.1 h
  rw [State.storeLevel, List.modify_eq_set_getElem?]
  simp [hlt]

/-- The turn of a caller in the middle of an operation. -/
theorem step_of_line {s : State} {k : Nat} {ts : List Agent} {c : Caller} {l : Line} {rest : List Line}
    (hu : Unmarked s) (hts : s.turns = .caller k :: ts) (hc : s.callers[k]? = some c) (hcode : c.code = l :: rest) :
    step s = .next (runLine k l { c with code := rest } (s.setTurns ts)) := by
  rw [step_of_turn hu hts]
  simp only [agentStep, callerStep, State.setTurns_callers, hc, hcode]

/-! ### The lines of `request` -/

theorem lookup_empty {s : State} (k : Nat) (c : Caller) (level : Strength) (h : s.registry = []) :
    lookup k c level s = s.setCaller k (c.abandon .errDeviceNotFound) := by
  simp only [lookup, h]

theorem lookup_first {s : State} (k : Nat) (c : Caller) (level : Strength) {handle : Nat} {handles : List Nat}
    {inst : Instance} (h : s.registry = handle :: handles) (hi : s.instances[handle]? = some inst) :
    lookup k c level s =
      State.setCaller { s with instances := s.instances.set handle { inst with level := level } } k
        { c with code := configureLines level ++ .returnHandle handle :: c.code } := by
  unfold lookup
  split
  · next hnil => simp [h] at hnil
  · next hcons =>
    obtain ⟨rfl, -⟩ := List.cons.inj (h.symm.trans hcons)
    rw [withInstance_some _ hi, storeLevel_of_some level hi]

/-- Settles O50. The lookup's turn, on an empty registry and on a first handle. -/
theorem requestTakesTheFirstInstance : Obligations.RequestTakesTheFirstInstance := by
  unfold Obligations.RequestTakesTheFirstInstance
  intro s k ts c level rest
  refine ⟨rfl, rfl, rfl, rfl, fun _ => rfl, fun hu hts hc hcode => ⟨fun hreg => ?_, fun handle handles inst hreg hi => ?_⟩⟩
  · exact (step_of_line hu hts hc hcode).trans (congrArg _ (lookup_empty (s := s.setTurns ts) _ _ _ hreg))
  · exact (step_of_line hu hts hc hcode).trans (congrArg _ (lookup_first (s := s.setTurns ts) _ _ _ hreg hi))

/-! ### The payload check -/

/-- Settles O51. The check is the line's only work; its nested tests are the statement's. -/
theorem payloadLengthIsOpenButForBch8 : Obligations.PayloadLengthIsOpenButForBch8 := by
  unfold Obligations.PayloadLengthIsOpenButForBch8
  intro s k ts c handle src bound rest
  refine ⟨rfl, rfl, rfl, rfl, fun hu hts hc hcode => ?_⟩
  refine (step_of_line hu hts hc hcode).trans (congrArg _ ?_)
  show checkPayload k { c with code := rest } handle src (s.setTurns ts) = _
  unfold checkPayload
  cases hi : s.instances[handle]? with
  | none => rw [withInstance_none (s := s.setTurns ts) _ hi]; rfl
  | some inst =>
    rw [withInstance_some (s := s.setTurns ts) _ hi]
    dsimp only
    cases Config.payloadLen inst.level <;> rfl

/-! ### The lines of `classify` -/

/-- Settles O53. The three branches of `classifyStatus`, and what each line lays out. -/
theorem classifyReadsCountedSlots : Obligations.ClassifyReadsCountedSlots := by
  unfold Obligations.ClassifyReadsCountedSlots
  intro w c k s
  refine ⟨rfl, rfl, fun hcorr hcount => ?_, fun hcorr hcount => ?_, fun hcorr => ?_, fun i => ⟨rfl, rfl⟩,
    ⟨_, rfl, rfl, rfl⟩, ⟨_, rfl, rfl, rfl⟩⟩
  · exact (if_pos hcorr).trans (if_pos hcount)
  · exact ⟨_, (if_pos hcorr).trans (if_neg (Nat.not_lt.2 hcount)), rfl, rfl⟩
  · exact if_neg (Bool.eq_false_iff.1 hcorr)

end Sys2Proof.Machine

/-! PROOFS of the family 'other': runs of one caller, turn by turn. A run from `s` is kept as three things that each turn
carries on: what its caller has become, the turns ahead, and the rest of the state. -/

namespace Sys2Proof.Machine

/-! ### Runs of one caller -/

/-- `n` steps lead from `s` to `t`. -/
abbrev Reaches (n : Nat) (s t : State) : Prop := Host.Core.run core n s = .next t

theorem Reaches.trans {m n : Nat} {s t u : State} (h : Reaches m s t) (h' : Reaches n t u) : Reaches (m + n) s u :=
  (runSteps_add m n s t h).trans h'

/-- `t` with the turns `ts` ahead and caller `k` of the list `l` being `c`. -/
abbrev State.moving (t : State) (ts : List Agent) (l : List Caller) (k : Nat) (c : Caller) : State :=
  { t with turns := ts, callers := l.set k c }

/-- `n` steps lead from `s` to an unmarked state that is `t` but for its turns `ts` and its caller `k`, which is `c`; the
other callers are those of `l`. -/
structure Leads (n : Nat) (s : State) (k : Nat) (l : List Caller) (c : Caller) (ts : List Agent) (t : State) : Prop where
  reaches : Reaches n s (t.moving ts l k c)
  unmarked : Unmarked t
  lt : k < l.length

/-- A list with the caller set where it stands is the list. -/
theorem set_self_of_some {l : List Caller} {k : Nat} {c : Caller} (h : l[k]? = some c) : l.set k c = l := by
  obtain ⟨hk, rfl⟩ := List.getElem?_eq_some_iff.1 h
  exact List.set_getElem_self hk

/-- A run begins where its caller stands. -/
theorem leads_of_some {s : State} {k : Nat} {c : Caller} {ts : List Agent} (hu : Unmarked s) (hts : s.turns = ts)
    (hc : s.callers[k]? = some c) : Leads 0 s k s.callers c ts s where
  reaches := by rw [State.moving, set_self_of_some hc, ← hts]; rfl
  unmarked := hu
  lt := (List.getElem?_eq_some_iff.1 hc).1

section
variable {n : Nat} {s t u : State} {k : Nat} {l : List Caller} {c c' : Caller} {ts : List Agent} {line : Line}
  {rest : List Line}

theorem Leads.ready (h : Leads n s k l c (.caller k :: ts) t) : Ready (t.moving (.caller k :: ts) l k c) k ts c :=
  ⟨h.unmarked, rfl, by simp [h.lt]⟩

/-- Setting the moving caller forgets what it was. -/
theorem setCaller_moving (u : State) (ts : List Agent) (l : List Caller) (k : Nat) (c c' : Caller) :
    (u.moving ts l k c).setCaller k c' = u.moving ts l k c' := by
  simp only [State.setCaller, State.moving, List.set_set]

/-- One more turn of the caller. -/
theorem Leads.turn (h : Leads n s k l c (.caller k :: ts) t)
    (hstep : Reaches 1 (t.moving (.caller k :: ts) l k c) ((u.moving ts l k c).setCaller k c')) (hu : Unmarked u) :
    Leads (n + 1) s k l c' ts u :=
  ⟨h.reaches.trans (setCaller_moving u ts l k c c' ▸ hstep), hu, h.lt⟩

/-- A line whose transaction completes. -/
theorem Leads.transaction (h : Leads n s k l c (.caller k :: ts) t) {i : Instr} (hcode : c.code = line :: rest)
    (hi : transactionOf { c with code := rest } line = some i)
    (he : exec i (t.moving ts l k c) = .next (u.moving ts l k c))
    (ha : afterLine line u.readData { c with code := rest } = .ok c') : Leads (n + 1) s k l c' ts u := by
  obtain ⟨hfault, hrefused, -⟩ := (exec_effect i _ _ he).softwareUnchanged
  exact h.turn (h.ready.run_transaction 0 hcode hi he ha) ⟨hfault.trans h.unmarked.1, hrefused.trans h.unmarked.2⟩

/-- A line of software that may set a mark. -/
theorem Leads.reaches_software (h : Leads n s k l c (.caller k :: ts) t) (hcode : c.code = line :: rest)
    (hi : transactionOf { c with code := rest } line = none) :
    Reaches (n + 1) s (runSoftware k line { c with code := rest } (t.moving ts l k c)) :=
  h.reaches.trans (h.ready.run_software 0 hcode hi)

/-- A line of software that sets none. -/
theorem Leads.software (h : Leads n s k l c (.caller k :: ts) t) (hcode : c.code = line :: rest)
    (hi : transactionOf { c with code := rest } line = none)
    (hr : runSoftware k line { c with code := rest } (t.moving ts l k c) = (u.moving ts l k c).setCaller k c')
    (hu : Unmarked u) : Leads (n + 1) s k l c' ts u :=
  h.turn (hr ▸ h.ready.run_software 0 hcode hi) hu

/-- A line of software that changes nothing but its caller. -/
theorem Leads.ownLine (h : Leads n s k l c (.caller k :: ts) t) (hcode : c.code = line :: rest)
    (hi : transactionOf { c with code := rest } line = none)
    (hr : ∀ u, runSoftware k line { c with code := rest } u = u.setCaller k c') : Leads (n + 1) s k l c' ts t :=
  h.software hcode hi (hr _) h.unmarked

/-- Calling an operation. -/
theorem Leads.call (h : Leads n s k l c (.caller k :: ts) t) {op : Operation} {cs : List Command}
    (hcode : c.code = []) (hcmd : c.commands = .operation op :: cs) :
    Leads (n + 1) s k l { c with commands := cs, code := linesOf op } ts t :=
  h.turn (h.ready.run_call 0 hcode hcmd) h.unmarked

/-- The return of an operation without a result. -/
theorem Leads.returnCompleted (h : Leads n s k l c (.caller k :: ts) t) (hcode : c.code = .returnCompleted :: rest) :
    Leads (n + 1) s k l { c with code := rest, returned := .completed :: c.returned } ts t :=
  h.ownLine hcode rfl fun _ => rfl

/-- The first line of `configure` stores the strength under an existing handle (log 27). -/
theorem Leads.storeLevel (h : Leads n s k l c (.caller k :: ts) t) {level : Strength} {handle : Nat} {inst : Instance}
    (hcode : c.code = .storeLevel handle level :: rest) (hi : t.instances[handle]? = some inst) :
    Leads (n + 1) s k l { c with code := rest } ts
      { t with instances := t.instances.set handle { inst with level := level } } := by
  refine h.software hcode rfl ((withInstance_some (s := t.moving ts l k c) _ hi).trans ?_) h.unmarked
  rw [storeLevel_of_some (s := t.moving ts l k c) level hi]

/-- The lookup of `request` in a registry that is not empty (43_registry_operations.md R192). -/
theorem Leads.lookup (h : Leads n s k l c (.caller k :: ts) t) {level : Strength} {handle : Nat} {handles : List Nat}
    {inst : Instance} (hcode : c.code = .lookup level :: rest) (hreg : t.registry = handle :: handles)
    (hi : t.instances[handle]? = some inst) :
    Leads (n + 1) s k l { c with code := configureLines level ++ .returnHandle handle :: rest } ts
      { t with instances := t.instances.set handle { inst with level := level } } :=
  h.software hcode rfl (lookup_first (s := t.moving ts l k c) k { c with code := rest } level hreg hi) h.unmarked

/-- The two transactions of `configure` (42_protocol_operations.md R164). -/
theorem Leads.configure (h : Leads n s k l c (.caller k :: .caller k :: ts) t) (hrun : Running t) (hjob : t.job = none)
    {level : Strength} (hcode : c.code = configureLines level ++ rest) :
    Leads (n + 2) s k l { c with phase := .configured, code := rest } ts
      { t with level := codeOf level, size := bufSize, pageMode := 0 } := by
  have hconfig : Leads (n + 1) s k l { c with code := .writeContinuous :: rest } (.caller k :: ts)
      { t with level := codeOf level, size := bufSize } :=
    h.transaction hcode rfl (exec_wrLocationConfig_configValue level hrun hjob) rfl
  exact hconfig.transaction rfl rfl (exec_idle (exec_wrPageCtrl 0 _) hrun hjob) rfl

end

/-! ### The payload check, branch by branch -/

section
variable {s : State} {handle : Nat} {inst : Instance} (k : Nat) (c : Caller) {src : Payload}

/-- The check lets its caller go on or is refused. -/
theorem checkPayload_outcome (handle : Nat) (src : Payload) (s : State) :
    (∃ r, checkPayload k c handle src s = s.markRefused r) ∨ checkPayload k c handle src s = s.setCaller k c := by
  unfold checkPayload withInstance
  split
  · exact .inl ⟨_, rfl⟩
  dsimp only
  split
  · exact .inl ⟨_, rfl⟩
  split
  · exact .inl ⟨_, rfl⟩
  split
  · exact .inr rfl
  · exact .inl ⟨_, rfl⟩

/-- Whatever the check answers, the engine and the strengths stored under the handles are as they were. -/
theorem checkPayload_frame (handle : Nat) (src : Payload) (s : State) :
    (checkPayload k c handle src s).level = s.level ∧ (checkPayload k c handle src s).size = s.size ∧
    (checkPayload k c handle src s).pageMode = s.pageMode ∧ (checkPayload k c handle src s).frag = s.frag ∧
    (checkPayload k c handle src s).job = s.job ∧ (checkPayload k c handle src s).instances = s.instances := by
  obtain ⟨r, h⟩ | h := checkPayload_outcome k c handle src s
  all_goals
    rw [h]
    exact ⟨rfl, rfl, rfl, rfl, rfl, rfl⟩

theorem checkPayload_open (hi : s.instances[handle]? = some inst) (h : Config.payloadLen inst.level = none) :
    checkPayload k c handle src s = s.markRefused .payloadLengthOpen := by
  rw [checkPayload, withInstance_some _ hi, h]

theorem checkPayload_bch8 (hi : s.instances[handle]? = some inst) (hl : inst.level = .bch8) (h : src.length = 13) :
    checkPayload k c handle src s = s.setCaller k c := by
  rw [checkPayload, withInstance_some _ hi, hl]
  exact if_pos h

end

/-! ### A whole `request`, and a whole `configure` -/

/-- Settles O58. Five turns: the call, the lookup, the two writes of `configure`, the return of the handle. -/
theorem requestConfiguresTheEngine : Obligations.RequestConfiguresTheEngine := by
  unfold Obligations.RequestConfiguresTheEngine
  intro s k ts c level cs handle handles inst hu hrun hjob hreg hi hc hcode hcmd hts
  simp only [List.reduceReplicate, List.cons_append, List.nil_append] at hts
  have hcall := (leads_of_some hu hts hc).call hcode hcmd
  have hlookup := hcall.lookup rfl hreg hi
  have hconfigured := hlookup.configure hrun hjob rfl
  have hreturned := hconfigured.ownLine rfl rfl fun _ => rfl
  have hidle : c = { c with code := [] } := by rw [← hcode]
  rw [hidle]
  exact hreturned.reaches

/-- Settles O59. Six turns lead to the call of `decode`; the seventh is the payload check under the handle that has taken
the strength, and whatever it answers, the engine keeps the configuration. -/
theorem configureDecidesThePayloadCheck : Obligations.ConfigureDecidesThePayloadCheck := by
  unfold Obligations.ConfigureDecidesThePayloadCheck
  intro s k handle ts c level src bound
  refine ⟨rfl, fun hnone => withInstance_none _ hnone, fun inst hu hrun hjob hi hc hcode hcmd hts => ?_⟩
  simp only [List.reduceReplicate, List.cons_append, List.nil_append] at hts
  have hcall := (leads_of_some hu hts hc).call hcode hcmd
  have hstored := hcall.storeLevel rfl hi
  have hconfigured := hstored.configure hrun hjob rfl
  have hreturned := hconfigured.returnCompleted rfl
  have hdecode := hreturned.call rfl rfl
  have hcheck : Reaches 7 s (checkPayload k _ handle src.toList _) := hdecode.reaches_software rfl rfl
  obtain ⟨hlt, -⟩ := List.getElem?_eq_some_iff.1 hi
  have hi' : (s.instances.set handle { inst with level := level })[handle]? = some { inst with level := level } := by
    simp [hlt]
  obtain ⟨hlevel, hsize, hmode, hfrag, hjob', hinst⟩ := checkPayload_frame k _ handle src.toList _
  refine ⟨_, hcheck, hlevel, hsize, hmode, hfrag, hjob'.trans hjob, hinst, fun hopen => ?_, ?_⟩
  · exact congrArg State.refused (checkPayload_open k _ hi' hopen)
  · rintro rfl
    have hlen : src.toList.length = 13 := by simp
    rw [checkPayload_bch8 (inst := { inst with level := .bch8 }) k _ ?_ rfl hlen]
    · exact ⟨hu, _, getElem?_set_self_of_some (getElem?_set_self_of_some hc _) _, rfl, rfl, rfl⟩
    · exact hi'

end Sys2Proof.Machine

/-! PROOFS of the family 'other': the waits, bounded and unbounded (42_protocol_operations.md R171, decision D29). -/

namespace Sys2Proof.Machine

/-- The two waits. -/
abbrev IsPoll (poll : Option Nat → Line) : Prop := poll = .pollDone ∨ poll = .pollResetDone

/-- The wait `poll` is admitted in `s`, where the bit it polls is `b`. -/
structure PollsBit (poll : Option Nat → Line) (s : State) (b : Bool) : Prop where
  unpowered : s.poweredUnreset = false
  bit : (poll = .pollDone ∧ s.resetPending = false ∧ s.done0 = b) ∨ (poll = .pollResetDone ∧ s.resetDone = b)

theorem PollsBit.isPoll {poll : Option Nat → Line} {s : State} {b : Bool} (h : PollsBit poll s b) : IsPoll poll :=
  h.bit.imp And.left And.left

/-- A poll within its bound reads the bit and nothing else of the machine changes. -/
theorem PollsBit.transaction {poll : Option Nat → Line} {s : State} {b : Bool} (h : PollsBit poll s b)
    {bound : Option Nat} (hb : bound ≠ some 0) (c : Caller) : ∃ i w,
      transactionOf c (poll bound) = some i ∧ exec i s = .next { s with readData := w, draws := s.draws + 1 } ∧
        statusBitOf w = b := by
  obtain ⟨rfl, hr, hbit⟩ | ⟨rfl, hbit⟩ := h.bit
  · exact ⟨_, _, if_neg hb, exec_running (exec_rdIrqstatus s) ⟨h.unpowered, hr⟩,
      (getLsbD_setField_ofBool _ 0 s.done0 (by decide)).trans hbit⟩
  · exact ⟨_, _, if_neg hb, exec_rdSysstatus s, (sysstatusWord_bit _ h.unpowered).trans hbit⟩

/-- What a caller makes of the word a poll read. -/
theorem afterLine_poll {poll : Option Nat → Line} (h : IsPoll poll) (bound : Option Nat) (w : Word) (c : Caller) :
    afterLine (poll bound) w c =
      if statusBitOf w then .ok c else .ok { c with code := poll (bound.map (· - 1)) :: c.code } := by
  obtain rfl | rfl := h <;> rfl

section
variable {n : Nat} {s t : State} {k : Nat} {l : List Caller} {c : Caller} {ts : List Agent}
  {poll : Option Nat → Line} {bound : Option Nat} {rest : List Line}

/-- A poll that sees a 1 goes on to the next line. -/
theorem Leads.poll_sees (h : Leads n s k l c (.caller k :: ts) t) (hp : PollsBit poll t true) (hb : bound ≠ some 0)
    (hcode : c.code = poll bound :: rest) :
    ∃ w, Leads (n + 1) s k l { c with code := rest } ts { t with readData := w, draws := t.draws + 1 } := by
  obtain ⟨i, w, hi, he, hw⟩ :=
    PollsBit.transaction (s := t.moving ts l k c) ⟨hp.unpowered, hp.bit⟩ hb { c with code := rest }
  refine ⟨w, h.transaction hcode hi he ?_⟩
  rw [afterLine_poll hp.isPoll]
  exact if_pos hw

/-- A poll that sees a 0 uses up one poll of its bound. -/
theorem Leads.poll_fails (h : Leads n s k l c (.caller k :: ts) t) (hp : PollsBit poll t false) (hb : bound ≠ some 0)
    (hcode : c.code = poll bound :: rest) : ∃ w,
      Leads (n + 1) s k l { c with code := poll (bound.map (· - 1)) :: rest } ts
        { t with readData := w, draws := t.draws + 1 } := by
  obtain ⟨i, w, hi, he, hw⟩ :=
    PollsBit.transaction (s := t.moving ts l k c) ⟨hp.unpowered, hp.bit⟩ hb { c with code := rest }
  refine ⟨w, h.transaction hcode hi he ?_⟩
  rw [afterLine_poll hp.isPoll]
  exact if_neg (Bool.eq_false_iff.1 hw)

/-- The turn after the last poll of a bound ends the operation. -/
theorem Leads.timeout (h : Leads n s k l c (.caller k :: ts) t) (hp : IsPoll poll)
    (hcode : c.code = poll (some 0) :: rest) :
    Leads (n + 1) s k l { c with code := [], returned := .errTimeout :: c.returned } ts t := by
  obtain rfl | rfl := hp
  · exact h.ownLine hcode rfl fun _ => rfl
  · exact h.ownLine hcode rfl fun _ => rfl

/-- `m` failed polls in a row, within the bound. -/
theorem Leads.polls_fail (m : Nat) (h : Leads n s k l c (List.replicate m (.caller k) ++ ts) t)
    (hp : PollsBit poll t false) (hm : ∀ b, bound = some b → m ≤ b) (hcode : c.code = poll bound :: rest) : ∃ w,
      Leads (n + m) s k l { c with code := poll (bound.map (· - m)) :: rest } ts
        { t with readData := w, draws := t.draws + m } := by
  induction m generalizing ts with
  | zero =>
    have hbound : bound.map (· - 0) = bound := by simp
    refine ⟨t.readData, ?_⟩
    rw [hbound, ← hcode]
    exact h
  | succ m ih =>
    rw [List.replicate_succ', List.append_assoc] at h
    obtain ⟨w, hmany⟩ := ih h fun b hb => (Nat.le_succ m).trans (hm b hb)
    have hleft : bound.map (· - m) ≠ some 0 := by
      intro hz
      obtain ⟨b, hb, hz⟩ := Option.map_eq_some_iff.1 hz
      have := hm b hb
      omega
    obtain ⟨w', hone⟩ := hmany.poll_fails ⟨hp.unpowered, hp.bit⟩ hleft rfl
    rw [Option.map_map] at hone
    exact ⟨w', hone⟩

end

/-- A run of one step is a step. -/
theorem step_of_reaches {s t : State} (hu : Unmarked s) (h : Reaches 1 s t) : step s = .next t :=
  (step_turn s hu).trans ((core_run_next core 0 s _ (step_turn s hu)).symm.trans h)

/-- Settles O52. The bound counts down by one at each failed poll, and at 0 the line is the timeout's. -/
theorem timeoutLeavesTheEngineAlone : Obligations.TimeoutLeavesTheEngineAlone := by
  unfold Obligations.TimeoutLeavesTheEngineAlone
  intro s k n ts c poll rest
  refine ⟨rfl, rfl, rfl, rfl, fun hu hts hc hp hcode => ?_, fun hu hpow hts hc hbit hcode => ?_,
    fun hu hpow hts hc hbit hcode => ?_⟩
  · exact step_of_reaches hu ((leads_of_some hu hts hc).timeout hp hcode).reaches
  · obtain ⟨w, h⟩ := (leads_of_some hu hts hc).poll_sees ⟨hpow, hbit⟩ (by simp) hcode
    exact ⟨w, step_of_reaches hu h.reaches⟩
  · have hpolls (m : Nat) (hm : m ≤ n) : ∃ w, Leads m s k s.callers { c with code := poll (some (n - m)) :: rest }
        (List.replicate (n + 1 - m) (.caller k) ++ ts) { s with readData := w, draws := s.draws + m } := by
      have hsplit : s.turns = List.replicate m (.caller k) ++ (List.replicate (n + 1 - m) (.caller k) ++ ts) := by
        rw [hts, ← List.append_assoc, List.replicate_append_replicate, Nat.add_sub_cancel' (by omega)]
      have h := (leads_of_some hu hsplit hc).polls_fail m ⟨hpow, hbit⟩ (fun b hb => Option.some_inj.1 hb ▸ hm) hcode
      rwa [Nat.zero_add] at h
    refine ⟨fun m hm => (hpolls m hm).imp fun _ h => h.reaches, ?_⟩
    obtain ⟨w, h⟩ := hpolls n le_rfl
    rw [Nat.sub_self, Nat.add_sub_cancel_left] at h
    exact ⟨w, (h.timeout (hbit.imp And.left And.left) rfl).reaches⟩

end Sys2Proof.Machine

/-! PROOFS of the family 'other': `register` brings the engine up (43_registry_operations.md R191,
42_protocol_operations.md R162). -/

namespace Sys2Proof.Machine

/-- The smart-idle value names IDLEMODE 2 (30_encoding.md R76). -/
theorem idleModeOf_smartIdleValue (v : Word) : idleModeOf (smartIdleValue v) = 0b10#2 := by
  apply BitVec.eq_of_getLsbD_eq
  intro i hi
  simp only [idleModeOf, smartIdleValue, getField, BitVec.getLsbD_extractLsb', BitVec.getLsbD_or,
    BitVec.getLsbD_and, BitVec.getLsbD_not]
  have : i = 0 ∨ i = 1 := by omega
  obtain rfl | rfl := this <;> simp

theorem sysconfigWrite_smartIdle {v : Word} (h : v.getLsbD 1 = false) :
    sysconfigWrite (smartIdleValue v) = .wrSysconfig (smartIdleValue v) :=
  sysconfigWrite_of_not_bit ((smartIdleValue_bit v).trans h)

section
variable {n : Nat} {s t : State} {k : Nat} {l : List Caller} {c : Caller} {ts : List Agent} {rest : List Line}

/-- Appending an existing handle to the registry (43_registry_operations.md R191). -/
theorem Leads.appendInstance (h : Leads n s k l c (.caller k :: ts) t) {handle : Nat} {inst : Instance}
    (hcode : c.code = .appendInstance handle :: rest) (hi : t.instances[handle]? = some inst) :
    Leads (n + 1) s k l { c with code := rest } ts { t with registry := t.registry ++ [handle] } :=
  h.software hcode rfl (withInstance_some (s := t.moving ts l k c) _ hi) h.unmarked

/-- Laying out `configure` at the strength stored under the handle, the last part of `register`. -/
theorem Leads.configureStored (h : Leads n s k l c (.caller k :: ts) t) {handle : Nat} {inst : Instance}
    (hcode : c.code = .configureStored handle :: rest) (hi : t.instances[handle]? = some inst) :
    Leads (n + 1) s k l { c with code := configureLines inst.level ++ rest } ts t :=
  h.software hcode rfl (withInstance_some (s := t.moving ts l k c) _ hi) h.unmarked

/-- Reading SYSCONFIG; past the first reset the word has SOFTRESET 0. -/
theorem Leads.readSysconfig (h : Leads n s k l c (.caller k :: ts) t) (hcode : c.code = .readSysconfig :: rest)
    (hr : t.resetPending = false) : ∃ w, (t.poweredUnreset = false → w.getLsbD 1 = false) ∧
      Leads (n + 1) s k l { c with latch := w, code := rest } ts { t with readData := w, draws := t.draws + 1 } :=
  ⟨_, sysconfigWord_softReset (s := t) _, h.transaction hcode rfl
    ((exec_rdSysconfig (t.moving ts l k c)).trans (unlessResetting_running _ _ hr)) rfl⟩

/-- The write that starts a soft reset. -/
theorem Leads.writeSoftReset (h : Leads n s k l c (.caller k :: ts) t) (hcode : c.code = .writeSoftReset :: rest)
    (hr : t.resetPending = false) (hjob : t.job = none) :
    Leads (n + 1) s k l { c with phase := .resetting, code := rest } ts
      { t with resetPending := true, poweredUnreset := false, resetDone := false } :=
  h.transaction hcode (congrArg some (sysconfigWrite_softReset _))
    ((exec_wrSysconfigSrst _ (t.moving ts l k c)).trans
      ((unlessResetting_running _ _ hr).trans (whenNoJob_none _ _ hjob))) rfl

/-- The write of the smart-idle value, its SOFTRESET bit as it was read. -/
theorem Leads.writeSmartIdle (h : Leads n s k l c (.caller k :: ts) t) (hcode : c.code = .writeSmartIdle :: rest)
    (hrun : Running t) (hlatch : c.latch.getLsbD 1 = false) :
    Leads (n + 1) s k l { c with phase := .configured, code := rest } ts { t with idleMode := 0b10 } := by
  have he : exec (.wrSysconfig (smartIdleValue c.latch)) (t.moving ts l k c) =
      .next ((t.moving ts l k c).storeIdleMode 0b10) := by
    rw [exec_running (exec_wrSysconfig _ (t.moving ts l k c)) hrun, idleModeOf_smartIdleValue]
    rfl
  exact h.transaction hcode (congrArg some (sysconfigWrite_smartIdle hlatch)) he rfl

/-- A turn of the reset agent with a reset pending. -/
theorem Leads.completeReset (h : Leads n s k l c (.engineReset :: ts) t) (hr : t.resetPending = true) :
    Leads (n + 1) s k l c ts t.completeReset :=
  have hturn : Reaches 1 (t.moving (.engineReset :: ts) l k c) (t.moving ts l k c).completeReset :=
    (runSteps_turn 0 (t.moving (.engineReset :: ts) l k c) _ ts rfl h.unmarked).trans
      (congrArg Host.Outcome.next (engineResetStep_pending (s := t.moving ts l k c) hr))
  ⟨h.reaches.trans hturn, h.unmarked, h.lt⟩

/-- What is left of `register` once the reset has completed: seven turns to a configured engine. -/
theorem Leads.registerAfterReset {handle : Nat} {inst : Instance}
    (h : Leads n s k l c (List.replicate 7 (.caller k)) t)
    (hcode : c.code = [.pollResetDone none, .readSysconfig, .writeSmartIdle, .configureStored handle, .returnCompleted])
    (hrun : Running t) (hdone : t.resetDone = true) (hjob : t.job = none)
    (hi : t.instances[handle]? = some inst) : ∃ w latch,
      Leads (n + 7) s k l
        { c with latch := latch, phase := .configured, code := [], returned := .completed :: c.returned } []
        { t with
          idleMode := 0b10
          level := codeOf inst.level
          size := bufSize
          pageMode := 0
          readData := w
          draws := t.draws + 2 } := by
  simp only [List.reduceReplicate] at h
  obtain ⟨w, hpoll⟩ := h.poll_sees (bound := none) ⟨hrun.1, .inr ⟨rfl, hdone⟩⟩ nofun hcode
  obtain ⟨latch, hbit, hread⟩ := hpoll.readSysconfig rfl hrun.2
  have hidle := hread.writeSmartIdle rfl hrun (hbit hrun.1)
  have hlaid := hidle.configureStored rfl hi
  have hconfigured := hlaid.configure hrun hjob rfl
  exact ⟨latch, latch, hconfigured.returnCompleted rfl⟩

end

/-- Where O54 begins: power-on, one caller that is about to call `register`, and the schedule of the bring-up with `p`
failed polls. -/
def bringUp (inst : Instance) (p : Nat) (c : Caller) : State :=
  { State.powerOn with
    instances := [inst]
    callers := [c]
    turns := List.replicate (4 + p) (.caller 0) ++ .engineReset :: List.replicate 7 (.caller 0) }

theorem bringUp_turns (inst : Instance) (p : Nat) (c : Caller) :
    (bringUp inst p c).turns = .caller 0 :: .caller 0 :: .caller 0 :: .caller 0 ::
      (List.replicate p (.caller 0) ++ .engineReset :: List.replicate 7 (.caller 0)) := by
  rw [bringUp, ← List.replicate_append_replicate]; rfl

/-- Settles O54. Four turns start the reset, the polls before its completion fail, and what the completion leaves is what
the last seven turns need. -/
theorem registerBringsTheEngineUp : Obligations.RegisterBringsTheEngineUp := by
  unfold Obligations.RegisterBringsTheEngineUp
  intro inst p c hcode hcmd
  have hstart : Leads 0 (bringUp inst p c) 0 [c] c _ (bringUp inst p c) :=
    leads_of_some ⟨rfl, rfl⟩ (bringUp_turns inst p c) rfl
  have hcall := hstart.call hcode hcmd
  have happended := hcall.appendInstance (inst := inst) rfl rfl
  obtain ⟨w, -, hread⟩ := happended.readSysconfig rfl rfl
  have hreset := hread.writeSoftReset rfl rfl rfl
  obtain ⟨w', hpolls⟩ := hreset.polls_fail (bound := none) p ⟨rfl, .inr ⟨rfl, rfl⟩⟩ nofun rfl
  obtain ⟨w'', latch, hdone⟩ :=
    (hpolls.completeReset rfl).registerAfterReset (handle := 0) (inst := inst) rfl ⟨rfl, rfl⟩ rfl rfl rfl
  have hturns : 12 + p = 0 + 1 + 1 + 1 + 1 + p + 1 + 7 := by omega
  rw [hturns]
  exact ⟨_, hdone.reaches, rfl, rfl, rfl, rfl, rfl, rfl, rfl, rfl, rfl, rfl, rfl, rfl, ⟨rfl, rfl⟩, rfl, rfl, _, rfl,
    rfl, rfl, rfl, rfl⟩

end Sys2Proof.Machine

/-! PROOFS of the family 'other': `decode` returns what the location function says (42_protocol_operations.md R165 to
R170). One lemma per line, then the two halves of the operation around the decode completion. -/

namespace Sys2Proof.Machine

/-! ### The payload's syndrome -/

/-- The four written words and the two zero fragments above them. -/
theorem fragments_of_payload (src : Bch8Payload) (frag : Vector Word 6) (h4 : frag[4] = 0) (h5 : frag[5] = 0) :
    (((frag.set 0 (bufferWord (padded (rotate src.toList)) 0)).set 1 (bufferWord (padded (rotate src.toList)) 1)).set 2
      (bufferWord (padded (rotate src.toList)) 2)).set 3 (bufferWord (padded (rotate src.toList)) 3) =
      payloadFragments src := by
  rw [bufferWord_payload src 0 (by decide), bufferWord_payload src 1 (by decide),
    bufferWord_payload src 2 (by decide), bufferWord_payload_last]
  apply Vector.ext
  intro i hi
  interval_cases i <;> simp [payloadFragments, h4, h5]

/-- The syndrome of a payload as the fragments give it is `X(src)` (42_protocol_operations.md R170). -/
theorem syndromeOf_payloadFragments (src : Bch8Payload) :
    syndromeOf 0 (payloadFragments src) = payloadSyndrome src := by
  have hhigh : (0#16 ++ 0#32 ++ 0#32 ++ src[0].setWidth 32 : BitVec 112) = (0#104 ++ src[0] : BitVec 112) := by
    have hwide : (0#16 ++ 0#32 ++ 0#32 ++ src[0].setWidth 32 : BitVec 112).toNat = 0 ||| (src[0].setWidth 32).toNat :=
      BitVec.toNat_append (0#16 ++ 0#32 ++ 0#32) (src[0].setWidth 32)
    have hbyte : (0#104 ++ src[0] : BitVec 112).toNat = 0 ||| src[0].toNat := BitVec.toNat_append 0#104 src[0]
    exact BitVec.eq_of_toNat_eq (by rw [hwide, hbyte, BitVec.toNat_setWidth_of_le (by decide)])
  show (0#16 ++ 0#32 ++ 0#32 ++ src[0].setWidth 32 : BitVec 112) ++ le32 src[4] src[3] src[2] src[1] ++
    le32 src[8] src[7] src[6] src[5] ++ le32 src[12] src[11] src[10] src[9] = _
  rw [hhigh, le32_eq_append, le32_eq_append, le32_eq_append, append_word_bytes, append_word_bytes, append_word_bytes]
  rfl

/-! ### The lines of `decode` -/

/-- The registers hold the verdict `v` (41_engine_steps.md R142). -/
structure Publishes (t : State) (v : Verdict) : Prop where
  correctable : t.correctable = correctableAfter v
  count : ∀ locs, v = .correctable locs → t.nbErrors.toNat = locs.length
  slots : ∀ locs, v = .correctable locs → ∀ i : Fin 16, ∀ h : i.val < locs.length, t.errLoc[i] = locs[i.val]

theorem publishes_locate (s : State) (j : Job) :
    Publishes (s.publish (locate j.level j.size j.syn)) (locate j.level j.size j.syn) where
  correctable := rfl
  count := fun locs h => by rw [State.publish_nbErrors, h, countAfter_toNat _ h]
  slots := fun locs h => by rw [State.publish_errLoc, h]; exact slotsOf_getElem locs _

section
variable {n : Nat} {s t : State} {k : Nat} {l : List Caller} {c : Caller} {ts : List Agent} {rest : List Line}

/-- The payload check of a thirteen-byte payload at BCH8. -/
theorem Leads.checkPayload (h : Leads n s k l c (.caller k :: ts) t) {handle : Nat} {src : Payload} {inst : Instance}
    (hcode : c.code = .checkPayload handle src :: rest) (hi : t.instances[handle]? = some inst)
    (hl : inst.level = .bch8) (hlen : src.length = 13) : Leads (n + 1) s k l { c with code := rest } ts t :=
  h.software hcode rfl (checkPayload_bch8 (s := t.moving ts l k c) k _ hi hl hlen) h.unmarked

/-- Writing word `m` of the buffer into fragment `m`. -/
theorem Leads.writeFragment (h : Leads n s k l c (.caller k :: ts) t) (m : Fin 4)
    (hcode : c.code = .writeFragment m :: rest) (hrun : Running t) (hjob : t.job = none) :
    Leads (n + 1) s k l { c with phase := if m = 3 then .syndromeLoaded else c.phase, code := rest } ts
      { t with frag := t.frag.set m.val (bufferWord c.synBuffer m) } := by
  have he (i : Fin 6) (w : Word) := exec_idle (exec_wrSf w i (t.moving ts l k c)) hrun hjob
  fin_cases m
  · exact h.transaction hcode rfl (he 0 _) rfl
  · exact h.transaction hcode rfl (he 1 _) rfl
  · exact h.transaction hcode rfl (he 2 _) rfl
  · exact h.transaction hcode rfl (he 3 _) rfl

/-- Filling the buffer and writing its four words (42_protocol_operations.md R165). -/
theorem Leads.load (h : Leads n s k l c
      (.caller k :: .caller k :: .caller k :: .caller k :: .caller k :: ts) t) {src : Bch8Payload}
    (hcode : c.code = .fillBuffer src.toList :: .writeFragment 0 :: .writeFragment 1 :: .writeFragment 2 ::
      .writeFragment 3 :: rest)
    (hrun : Running t) (hjob : t.job = none) (h4 : t.frag[4] = 0) (h5 : t.frag[5] = 0) :
    Leads (n + 5) s k l
      { c with synBuffer := padded (rotate src.toList), phase := .syndromeLoaded, code := rest } ts
      { t with frag := payloadFragments src } := by
  have hfill := h.ownLine hcode rfl fun _ => rfl
  have hword0 := hfill.writeFragment 0 rfl hrun hjob
  have hword1 := hword0.writeFragment 1 rfl hrun hjob
  have hword2 := hword1.writeFragment 2 rfl hrun hjob
  have hword3 := hword2.writeFragment 3 rfl hrun hjob
  rw [← fragments_of_payload src t.frag h4 h5]
  exact hword3

/-- `start`: fragment 6 read, and its DATA written back with the trigger (42_protocol_operations.md R166). -/
theorem Leads.start (h : Leads n s k l c (.caller k :: .caller k :: ts) t)
    (hcode : c.code = .readFragment6 :: .writeTrigger :: rest) (hrun : Running t) (hjob : t.job = none)
    (hl : strengthOf t.level ≠ none) (hm : t.pageMode = 0) : ∃ w,
      Leads (n + 2) s k l { c with latch := w, phase := .processing, code := rest } ts { t with
        frag6Valid := true
        job := some { level := t.level, size := t.size, syn := syndromeOf t.frag6Data t.frag }
        readData := w
        draws := t.draws + 1 } := by
  have hread : Leads (n + 1) s k l
      { c with latch := fragment6Word t (Config.draw 32 t.draws), code := .writeTrigger :: rest } (.caller k :: ts)
      { t with readData := fragment6Word t (Config.draw 32 t.draws), draws := t.draws + 1 } :=
    h.transaction hcode rfl (exec_rdSf6_running (s := t.moving (.caller k :: ts) l k c) hrun) rfl
  have he := exec_wrSf6Trig_starts (triggerValue (fragment6Word t (Config.draw 32 t.draws)))
    (s := { t with readData := fragment6Word t (Config.draw 32 t.draws), draws := t.draws + 1 }.moving ts l k
      { c with latch := fragment6Word t (Config.draw 32 t.draws), code := .writeTrigger :: rest })
    hrun hjob hl hm
  rw [frag6DataOf_writeBack t (Config.draw 32 t.draws)] at he
  exact ⟨_, hread.transaction rfl (congrArg some (fragment6Write_trigger _)) he rfl⟩

/-- A turn of the decode agent with a job present. -/
theorem Leads.completeDecode (h : Leads n s k l c (.engineDecode :: ts) t) {j : Job} (hj : t.job = some j) :
    Leads (n + 1) s k l c ts (t.publish (locate j.level j.size j.syn)) :=
  have hturn : Reaches 1 (t.moving (.engineDecode :: ts) l k c)
      ((t.moving ts l k c).publish (locate j.level j.size j.syn)) :=
    (runSteps_turn 0 (t.moving (.engineDecode :: ts) l k c) _ ts rfl h.unmarked).trans
      (congrArg Host.Outcome.next (engineDecodeStep_some (s := t.moving ts l k c) hj))
  ⟨h.reaches.trans hturn, h.unmarked, h.lt⟩

/-- The acknowledge of `await_completion`. -/
theorem Leads.acknowledge (h : Leads n s k l c (.caller k :: ts) t) (hcode : c.code = .acknowledge :: rest)
    (hrun : Running t) :
    Leads (n + 1) s k l { c with phase := .done, code := rest } ts { t with done0 := false } :=
  h.transaction hcode rfl (exec_acknowledge (s := t.moving ts l k c) hrun) rfl

/-- Reading LOCATION_STATUS with no job present: what is read is what `classify` sees of the registers. -/
theorem Leads.readStatus (h : Leads n s k l c (.caller k :: ts) t) (hcode : c.code = .readStatus :: rest)
    (hrun : Running t) (hjob : t.job = none) {c' : Caller}
    (hclassify : ∀ w, correctableOf w = t.correctable → countOf w = t.nbErrors →
      classifyStatus w { c with code := rest } = .ok c') :
    ∃ w, Leads (n + 1) s k l c' ts { t with readData := w, draws := t.draws + 1 } :=
  ⟨_, h.transaction hcode rfl (exec_running (exec_rdLocationStatus (t.moving ts l k c)) hrun)
    (hclassify _ (locationStatusWord_correctable _ hjob) (locationStatusWord_count _ hjob))⟩

/-- Reading a slot with no job present appends its location. -/
theorem Leads.readSlot (h : Leads n s k l c (.caller k :: ts) t) {i : BitVec 4} (hcode : c.code = .readSlot i :: rest)
    (hrun : Running t) (hjob : t.job = none) : ∃ w,
      Leads (n + 1) s k l { c with locs := c.locs ++ [t.errLoc[i.toFin]], code := rest } ts
        { t with readData := w, draws := t.draws + 1 } := by
  refine ⟨errlocWord i t (Config.draw 32 t.draws),
    h.transaction hcode rfl (exec_running (exec_rdErrloc i (t.moving ts l k c)) hrun) ?_⟩
  rw [← errlocWord_position (s := t) i (Config.draw 32 t.draws) hjob]
  rfl

/-- Reading the slots `is` in order appends their locations in that order. -/
theorem Leads.readSlots (is : List (BitVec 4))
    (h : Leads n s k l c (List.replicate is.length (.caller k) ++ ts) t) (hcode : c.code = is.map .readSlot ++ rest)
    (hrun : Running t) (hjob : t.job = none) : ∃ w d,
      Leads (n + is.length) s k l { c with locs := c.locs ++ is.map (fun i => t.errLoc[i.toFin]), code := rest } ts
        { t with readData := w, draws := d } := by
  induction is generalizing n t c with
  | nil =>
    have hrest : c.code = rest := hcode
    refine ⟨t.readData, t.draws, ?_⟩
    rw [List.map_nil, List.append_nil, ← hrest]
    exact h
  | cons i is ih =>
    obtain ⟨w, hread⟩ := Leads.readSlot (ts := List.replicate is.length (.caller k) ++ ts) h hcode hrun hjob
    obtain ⟨w', d, hreads⟩ := ih hread rfl hrun hjob
    dsimp only at hreads
    rw [List.append_assoc, Nat.add_assoc, Nat.add_comm 1] at hreads
    exact ⟨w', d, hreads⟩

/-- Turns of a caller with nothing to do. -/
theorem Leads.idle (m : Nat) (h : Leads n s k l c (List.replicate m (.caller k) ++ ts) t) (hcode : c.code = [])
    (hcmd : c.commands = []) : Leads (n + m) s k l c ts t := by
  induction m generalizing n with
  | zero => exact h
  | succ m ih =>
    have hfirst : Leads n s k l c (.caller k :: (List.replicate m (.caller k) ++ ts)) t := h
    have hone : Leads (n + 1) s k l c (List.replicate m (.caller k) ++ ts) t :=
      ⟨h.reaches.trans (hfirst.ready.run_nothing 0 hcode hcmd), h.unmarked, h.lt⟩
    have hrest := ih hone
    rw [Nat.add_assoc, Nat.add_comm 1] at hrest
    exact hrest

/-- Once the result is given back, the phase returns to CONFIGURED and the caller has nothing more to do. -/
theorem Leads.returnToConfigured (m : Nat) (h : Leads n s k l c (List.replicate (m + 1) (.caller k)) t)
    (hcode : c.code = [.returnToConfigured]) (hcmd : c.commands = []) :
    Leads (n + 1 + m) s k l { c with phase := .configured, code := [] } [] t := by
  have hreturn := Leads.ownLine (ts := List.replicate m (.caller k)) h hcode rfl fun _ => rfl
  rw [← List.append_nil (List.replicate m _)] at hreturn
  exact hreturn.idle m rfl hcmd

end

/-! ### From the verdict to the result -/

/-- What `classify` makes of a cleared CORRECTABLE. -/
theorem classifyStatus_uncorrectable {w : Word} (c : Caller) (h : correctableOf w = false) :
    classifyStatus w c = .ok { c with code := .returnUncorrectable :: c.code } :=
  if_neg (Bool.eq_false_iff.1 h)

/-- What `classify` makes of a count of at most sixteen. -/
theorem classifyStatus_correctable {w : Word} (c : Caller) (h : correctableOf w = true) {m : Nat}
    (hm : (countOf w).toNat = m) (hle : m ≤ 16) :
    classifyStatus w c = .ok { c with locs := [], code := slotReads m ++ .returnCorrectable :: c.code } := by
  subst hm
  exact (if_pos h).trans (if_neg (Nat.not_lt.2 hle))

/-- The slots that `classify` reads. -/
def slotIndices (m : Nat) : List (BitVec 4) := (List.range m).map (BitVec.ofNat 4)

theorem slotReads_eq (m : Nat) : slotReads m = (slotIndices m).map .readSlot := by
  rw [slotReads, slotIndices, List.map_map]
  rfl

theorem length_slotIndices (m : Nat) : (slotIndices m).length = m := by
  simp [slotIndices]

/-- Read in order, the first slots are the locations. -/
theorem map_errLoc_slotIndices {t : State} {locs : List Location} (hle : locs.length ≤ 16)
    (hslots : ∀ i : Fin 16, ∀ h : i.val < locs.length, t.errLoc[i] = locs[i.val]) :
    (slotIndices locs.length).map (fun i => t.errLoc[i.toFin]) = locs := by
  apply List.ext_getElem
  · simp [length_slotIndices]
  · intro i hi hi'
    have hlt : i < 16 := hi'.trans_le hle
    have hindex : (BitVec.ofNat 4 i).toFin = ⟨i, hlt⟩ := Fin.ext (Nat.mod_eq_of_lt hlt)
    simp only [slotIndices, List.map_map, List.getElem_map, List.getElem_range, Function.comp_apply, hindex]
    exact hslots ⟨i, hlt⟩ hi'

/-- At BCH8 a verdict has at most eight locations (property P1). -/
theorem length_le_eight {size : SizeField} {syn : Syndrome} {locs : List Location}
    (h : locate (codeOf .bch8) size syn = .correctable locs) : locs.length ≤ 8 := by
  have hmax : maxLocations (codeOf .bch8) = 8 := by simp [maxLocations, correctableErrors]
  exact hmax ▸ locate_length_le _ _ _ _ h

section
variable {n : Nat} {s t : State} {k : Nat} {l : List Caller} {c : Caller}

/-- `classify` on a correctable verdict of at most eight locations: eleven turns, the idle ones last. -/
theorem Leads.classifyCorrectable {locs : List Location} (h : Leads n s k l c (List.replicate 11 (.caller k)) t)
    (hcode : c.code = [.readStatus]) (hcmd : c.commands = []) (hrun : Running t) (hjob : t.job = none)
    (hv : Publishes t (.correctable locs)) (hle : locs.length ≤ 8) : ∃ w d,
      Leads (n + 11) s k l
        { c with phase := .configured, locs := locs, code := [], returned := returnOf (.correctable locs) :: c.returned } []
        { t with readData := w, draws := d } := by
  have hle16 : locs.length ≤ 16 := hle.trans (by decide)
  obtain ⟨w, hstatus⟩ := Leads.readStatus (ts := List.replicate 10 (.caller k)) h hcode hrun hjob
    (c' := { c with locs := [], code := slotReads locs.length ++ [.returnCorrectable] }) fun w hcorr hcount =>
      classifyStatus_correctable _ (hcorr.trans hv.correctable) (hcount ▸ hv.count locs rfl) hle16
  have hsplit : List.replicate 10 (Agent.caller k) = List.replicate (slotIndices locs.length).length (.caller k) ++
      (.caller k :: List.replicate (8 - locs.length + 1) (.caller k)) := by
    rw [← List.replicate_succ, List.replicate_append_replicate, length_slotIndices]
    congr 1; omega
  rw [hsplit, slotReads_eq] at hstatus
  obtain ⟨w', d, hslots⟩ := hstatus.readSlots _ rfl hrun hjob
  dsimp only at hslots
  rw [List.nil_append, map_errLoc_slotIndices hle16 (hv.slots locs rfl), length_slotIndices] at hslots
  have hreturn := hslots.ownLine rfl rfl fun _ => rfl
  have hdone := hreturn.returnToConfigured (8 - locs.length) rfl hcmd
  have hturns : n + 1 + locs.length + 1 + 1 + (8 - locs.length) = n + 11 := by omega
  rw [hturns] at hdone
  exact ⟨w', d, hdone⟩

/-- `classify` on an uncorrectable verdict: eleven turns, the idle ones last. -/
theorem Leads.classifyUncorrectable (h : Leads n s k l c (List.replicate 11 (.caller k)) t)
    (hcode : c.code = [.readStatus]) (hcmd : c.commands = []) (hrun : Running t) (hjob : t.job = none)
    (hv : Publishes t .uncorrectable) : ∃ w d,
      Leads (n + 11) s k l { c with phase := .configured, code := [], returned := returnOf .uncorrectable :: c.returned }
        [] { t with readData := w, draws := d } := by
  obtain ⟨w, hstatus⟩ := Leads.readStatus (ts := List.replicate 10 (.caller k)) h hcode hrun hjob
    (c' := { c with code := [.returnUncorrectable] }) fun w hcorr _ =>
      classifyStatus_uncorrectable _ (hcorr.trans hv.correctable)
  have hreturn := Leads.ownLine (ts := List.replicate (8 + 1) (.caller k)) hstatus rfl rfl fun _ => rfl
  exact ⟨w, _, hreturn.returnToConfigured 8 rfl hcmd⟩

/-- What is left of `decode` once the engine has completed: thirteen turns from the poll that sees DONE0 to the result. -/
theorem Leads.decodeAfterCompletion {v : Verdict} (h : Leads n s k l c (List.replicate 13 (.caller k)) t)
    (hcode : c.code = [.pollDone none, .acknowledge, .readStatus]) (hcmd : c.commands = []) (hrun : Running t)
    (hjob : t.job = none) (hdone : t.done0 = true) (hv : Publishes t v)
    (hle : ∀ locs, v = .correctable locs → locs.length ≤ 8) : ∃ w d c',
      Leads (n + 13) s k l c' [] { t with done0 := false, readData := w, draws := d } ∧
      c'.code = [] ∧ c'.commands = [] ∧ c'.phase = .configured ∧ c'.returned = returnOf v :: c.returned := by
  obtain ⟨w, hpoll⟩ := Leads.poll_sees (bound := none) (ts := List.replicate 12 (.caller k)) h
    ⟨hrun.1, .inl ⟨rfl, hrun.2, hdone⟩⟩ nofun hcode
  have hack := Leads.acknowledge (ts := List.replicate 11 (.caller k)) hpoll rfl hrun
  have hpublished : Publishes { t with readData := w, draws := t.draws + 1, done0 := false } v :=
    ⟨hv.correctable, hv.count, hv.slots⟩
  cases v with
  | correctable locs =>
    obtain ⟨w', d, hclassify⟩ := hack.classifyCorrectable rfl hcmd hrun hjob hpublished (hle locs rfl)
    exact ⟨w', d, _, hclassify, rfl, hcmd, rfl, rfl⟩
  | uncorrectable =>
    obtain ⟨w', d, hclassify⟩ := hack.classifyUncorrectable rfl hcmd hrun hjob hpublished
    exact ⟨w', d, _, hclassify, rfl, hcmd, rfl, rfl⟩

end

/-- Settles O55. Nine turns load the payload and start the job on its syndrome, the polls before the completion fail, and
the last thirteen turns read back the published verdict. -/
theorem decodeReturnsTheLocatedErrors : Obligations.DecodeReturnsTheLocatedErrors := by
  unfold Obligations.DecodeReturnsTheLocatedErrors
  intro s k h p src c inst hu hrun hjob hdone hlevel hsize hmode h4 h5 h6 hi hbch hc hcode hcmd hts
  have hl : strengthOf s.level ≠ none := by simp [hlevel]
  have hturns : s.turns = .caller k :: .caller k :: .caller k :: .caller k :: .caller k :: .caller k :: .caller k ::
      .caller k :: .caller k ::
        (List.replicate p (.caller k) ++ .engineDecode :: List.replicate 13 (.caller k)) := by
    rw [hts, ← List.replicate_append_replicate]; rfl
  have hcall := (leads_of_some hu hturns hc).call hcode hcmd
  have hcheck := hcall.checkPayload rfl hi hbch (by simp)
  have hload := hcheck.load rfl hrun hjob h4 h5
  obtain ⟨w, hstart⟩ := hload.start rfl hrun hjob hl hmode
  dsimp only at hstart
  rw [h6, hlevel, hsize, syndromeOf_payloadFragments] at hstart
  obtain ⟨w', hpolls⟩ := hstart.polls_fail (bound := none) p ⟨hrun.1, .inl ⟨rfl, hrun.2, hdone⟩⟩ nofun rfl
  have hcomplete := hpolls.completeDecode rfl
  obtain ⟨w'', d, c', hlast, hcode', hcmd', hphase, hreturned⟩ := hcomplete.decodeAfterCompletion rfl rfl hrun rfl rfl
    (publishes_locate _ _) fun locs => length_le_eight
  have hcount : 23 + p = 0 + 1 + 1 + 5 + 2 + p + 1 + 13 := by omega
  rw [hcount]
  exact ⟨_, hlast.reaches, hlast.unmarked, rfl, rfl, hlevel.symm, hsize.symm, hmode, rfl, rfl, c',
    getElem?_set_self_of_some hc c', hcode', hcmd', hphase, hreturned⟩

end Sys2Proof.Machine
